-- ==== Sys2Proof/Word.lean ====
section
/-! DEFINITION. The machine's words: the byte of the buffer, the 32-bit bus and command word, the 4-bit register index.
Only the types stand here; arithmetic on field elements is in `Machine/Tower.lean`. -/

namespace Sys2Proof

/-- One byte of `IOBUF` (`20_memory.md` R71). -/
abbrev Byte := BitVec 8

/-- One 32-bit word: bus data (`20_memory.md` R70) and the command word (`30_encoding.md` R100). -/
abbrev Word := BitVec 32

/-- A byte address in the 4 KiB slave window (`20_memory.md` R70). -/
abbrev Addr := BitVec 12

/-- A register field of the command word: a 4-bit unsigned index (`30_encoding.md` R103). -/
abbrev RegIdx := BitVec 4

end Sys2Proof
end

