-- ==== Sys2Proof/Config.lean ====
section
/-! DEFINITION. What an implementation fixes: the sizes of `00_scope.md` R7, the base-field prime (the type of a field
element depends on it), and the open latency parameter `LAT`. The rest of the constant ROM is `Machine/Rom.lean`. -/

namespace Sys2Proof.Config

/-- Number of field-element registers `E0..E15` (R7). -/
abbrev NE : Nat := 16

/-- Number of G1 point registers `P0..P7` (R7). -/
abbrev NP : Nat := 8

/-- Number of G2 point registers `Q0..Q7` (R7). -/
abbrev NQ : Nat := 8

/-- Number of scalar registers `K0..K3` (R7). -/
abbrev NK : Nat := 4

/-- Capacity of each PairingCheck list (R7, `10_state.md` R37). -/
abbrev NPAIR : Nat := 8

/-- Size of the I/O buffer in bytes (R7, `10_state.md` R38). -/
abbrev IOBUF_BYTES : Nat := 384

/-- Bytes of one Fp block (R7). -/
abbrev FPBYTES : Nat := 32

/-- Iterations of the scalar-multiplication ladder, the bit length of `r` (R7, `43_scalar_mult.md` R263). -/
abbrev SMUL_ITER : Nat := 254

/-- The base-field prime `p` (`10_state.md` R51). -/
def p : Nat := 0x30644e72e131a029b85045b68181585d97816a916871ca8d3c208c16d87cfd47

theorem p_pos : 0 < p := by decide

/-- The open part of `LAT(opcode)`: the spec fixes no value, only that it is a positive integer and depends on nothing
but the opcode (`70_reset_and_hazards.md` R417, R418). Log 4. -/
opaque latPred : BitVec 8 → Nat

/-- The open part of `LAT(PC.RUN, n)`, which may depend on the list length (R417): a function of the lengths of `L1` and `L2`,
both `n` when `PC.RUN` completes normally. Log 4; for different lengths, where R417 does not say which is `n`, log 13. -/
opaque latPcRunPred : Nat → Nat → Nat

/-- Whether a command that raises takes the relaxation of R417, and the open part of the earlier time after which it then
completes, a function of the exception code only; `none` where it completes after `LAT(opcode)` like any other. Log 12. -/
opaque latErrorPred : BitVec 8 → Option Nat

end Sys2Proof.Config
end

