-- ==== Sys2Proof/Machine/Values.lean ====
section
/-! DEFINITION. The values registers hold (`10_state.md` R22 to R28): canonical field elements, points, tagged elements of
the `E` file, and exceptions as named causes. Montgomery and Jacobian forms are not architectural (R33). -/

namespace Sys2Proof.Machine

/-- An Fp element, held as its canonical representative, an integer in `[0, p)` (`40_fp_tower.md` R120, `10_state.md` R24).
The bound is in the type, so every register value is canonical. -/
abbrev Fp := Fin Config.p

/-- An Fp2 element `a0 + a1·u`, `u² = -1` (`40_fp_tower.md` R122). -/
structure Fp2 where
  a0 : Fp
  a1 : Fp
  deriving DecidableEq, Repr

/-- An Fp6 element `c0 + c1·v + c2·v²`, `v³ = ξ` (`40_fp_tower.md` R123). -/
structure Fp6 where
  c0 : Fp2
  c1 : Fp2
  c2 : Fp2
  deriving DecidableEq, Repr

/-- An Fp12 element `y + x·ω`, `ω² = v` (`40_fp_tower.md` R124). -/
structure Fp12 where
  y : Fp6
  x : Fp6
  deriving DecidableEq, Repr

/-- A point: the identity `O` or an affine pair (`10_state.md` R25, R26). -/
inductive Point (F : Type) where
  /-- `O`, the identity. -/
  | infinity
  | affine (x y : F)
  deriving DecidableEq, Repr

/-- A point over Fp (`10_state.md` R25). -/
abbrev G1Point := Point Fp

/-- A point over Fp2 (`10_state.md` R26). -/
abbrev G2Point := Point Fp2

/-- What an `E` register holds: the constructor is the tag (`10_state.md` R23). Tags 7 to 15 are never produced. -/
inductive EVal where
  /-- `EMPTY`: nothing has been written; no value (R30). -/
  | empty
  | fp (a : Fp)
  | fp2 (a : Fp2)
  | fp6 (a : Fp6)
  | fp12 (a : Fp12)
  /-- `GT`: an Fp12 element of the order-`r` subgroup (R34). -/
  | gt (a : Fp12)
  /-- `MLO`: a Miller-loop output, not zero (R34, `44_pairing.md` R278). -/
  | mlo (a : Fp12)
  deriving DecidableEq, Repr

/-- The operand a source register stands for: `SUB` is 1 for `ra`, 2 for `rb` (`60_exceptions.md` R366). -/
inductive Operand where
  | ra
  | rb
  deriving DecidableEq, Repr

/-- The exceptions a command can raise, with their sub-causes (`60_exceptions.md` R361). `Fatal` is no command's: it is the
integrity failure (R388). -/
inductive Exn where
  /-- `InvalidEncoding(SUB=1)`: wrong length (R362). -/
  | invalidLength
  /-- `InvalidEncoding(SUB=2)`: a non-canonical block (R362). -/
  | nonCanonical
  /-- `NotOnCurve` (R363). -/
  | notOnCurve
  /-- `NotInSubgroup(SUB=1)`: the explicit check failed (R364). -/
  | notInSubgroup
  /-- `NotInSubgroup(SUB=2, IDX=idx)`: a degenerate Miller step of pair `idx` (R364). -/
  | degenerateStep (idx : Nat)
  /-- `LengthMismatch` (R365). -/
  | lengthMismatch
  /-- `DivisionByZero` (R368). -/
  | divisionByZero
  /-- `IllegalCommand(SUB=1)`: reserved opcode (R369). -/
  | reservedOpcode
  /-- `IllegalCommand(SUB=2)`: a must-be-zero field is not zero (R369). -/
  | nonZeroField
  /-- `IllegalCommand(SUB=3)`: a register index out of range (R369). -/
  | indexOutOfRange
  /-- `EmptyOperand(SUB=1 or 2)` (R366). -/
  | emptyOperand (w : Operand)
  /-- `TypeMismatch(SUB=1 or 2)` (R367). -/
  | typeMismatch (w : Operand)
  /-- `ListFull(SUB=1)`: `L1` is full (R370). -/
  | list1Full
  /-- `ListFull(SUB=2)`: `L2` is full (R370). -/
  | list2Full
  deriving DecidableEq, Repr

end Sys2Proof.Machine
end

