-- ==== Sys2Proof/Machine/Tower.lean ====
section
/-! DEFINITION. The arithmetic of the field tower Fp, Fp2, Fp6, Fp12 (`40_fp_tower.md` R120 to R125): the spec's defining
formulas, each total; inversion of zero gives zero here and is guarded by the commands (R125). -/

namespace Sys2Proof.Machine

/-- The residue of an integer: reduction is always modulo `p` (R120). -/
def fpOfNat (n : Nat) : Fp := ⟨n % Config.p, Nat.mod_lt n Config.p_pos⟩

/-- `powLoop mul k b e acc`: square-and-multiply over the low `k` bits of `e`, least significant first:
`acc` times `b` to the power of those bits. -/
def powLoop {α : Type} (mul : α → α → α) : Nat → α → Nat → α → α
  | 0, _, _, acc => acc
  | k + 1, b, e, acc => powLoop mul k (mul b b) (e / 2) (if e % 2 = 1 then mul acc b else acc)

/-- The `e`-fold product of `a`, `one` for `e = 0` (`Fp12Pow` of R124, and the powers of R120, R317, R318). -/
def powBy {α : Type} (mul : α → α → α) (one a : α) (e : Nat) : α :=
  powLoop mul (Nat.log2 e + 1) a e one

/-! ## Fp (R120) -/

def fpZero : Fp := fpOfNat 0
def fpOne : Fp := fpOfNat 1

def fpAdd (a b : Fp) : Fp := fpOfNat (a.val + b.val)
/-- `(a - b) mod p`, the least non-negative residue. -/
def fpSub (a b : Fp) : Fp := fpOfNat (a.val + (Config.p - b.val))
def fpNeg (a : Fp) : Fp := fpOfNat (Config.p - a.val)
def fpMul (a b : Fp) : Fp := fpOfNat (a.val * b.val)
def fpSqr (a : Fp) : Fp := fpMul a a
def fpPow (a : Fp) (e : Nat) : Fp := powBy fpMul fpOne a e
/-- `a^(p-2) mod p`: the inverse of `a` for `a ≠ 0`. -/
def fpInv (a : Fp) : Fp := fpPow a (Config.p - 2)
/-- Equality as integers (R120, R128). -/
def fpEq (a b : Fp) : Bool := decide (a = b)

/-! ## Fp2 (R122) -/

def fp2OfNat (a0 a1 : Nat) : Fp2 := ⟨fpOfNat a0, fpOfNat a1⟩

def fp2Zero : Fp2 := ⟨fpZero, fpZero⟩
def fp2One : Fp2 := ⟨fpOne, fpZero⟩

def fp2Add (a b : Fp2) : Fp2 := ⟨fpAdd a.a0 b.a0, fpAdd a.a1 b.a1⟩
def fp2Sub (a b : Fp2) : Fp2 := ⟨fpSub a.a0 b.a0, fpSub a.a1 b.a1⟩
def fp2Neg (a : Fp2) : Fp2 := ⟨fpNeg a.a0, fpNeg a.a1⟩
def fp2Mul (a b : Fp2) : Fp2 :=
  ⟨fpSub (fpMul a.a0 b.a0) (fpMul a.a1 b.a1), fpAdd (fpMul a.a0 b.a1) (fpMul a.a1 b.a0)⟩
def fp2Sqr (a : Fp2) : Fp2 := fp2Mul a a
def fp2Conj (a : Fp2) : Fp2 := ⟨a.a0, fpNeg a.a1⟩
def fp2Norm (a : Fp2) : Fp := fpAdd (fpMul a.a0 a.a0) (fpMul a.a1 a.a1)
def fp2Inv (a : Fp2) : Fp2 :=
  let n := fpInv (fp2Norm a)
  ⟨fpMul a.a0 n, fpMul (fpNeg a.a1) n⟩
def fp2Eq (a b : Fp2) : Bool := decide (a = b)
def fp2Pow (a : Fp2) (e : Nat) : Fp2 := powBy fp2Mul fp2One a e
/-- `Fp2Scale((a0, a1), c)` (`44_pairing.md` R271). -/
def fp2Scale (a : Fp2) (c : Fp) : Fp2 := ⟨fpMul a.a0 c, fpMul a.a1 c⟩
/-- `ξ = 9 + u` (`10_state.md` R52). -/
def xi : Fp2 := fp2OfNat 9 1
/-- `MulXi(a) = Fp2Mul(a, (9, 1))` (R122). -/
def mulXi (a : Fp2) : Fp2 := fp2Mul a xi

/-! ## Fp6 (R123) -/

def fp6Zero : Fp6 := ⟨fp2Zero, fp2Zero, fp2Zero⟩
def fp6One : Fp6 := ⟨fp2One, fp2Zero, fp2Zero⟩

def fp6Add (a b : Fp6) : Fp6 := ⟨fp2Add a.c0 b.c0, fp2Add a.c1 b.c1, fp2Add a.c2 b.c2⟩
def fp6Sub (a b : Fp6) : Fp6 := ⟨fp2Sub a.c0 b.c0, fp2Sub a.c1 b.c1, fp2Sub a.c2 b.c2⟩
def fp6Neg (a : Fp6) : Fp6 := ⟨fp2Neg a.c0, fp2Neg a.c1, fp2Neg a.c2⟩
def fp6Mul (a b : Fp6) : Fp6 :=
  ⟨fp2Add (fp2Mul a.c0 b.c0) (mulXi (fp2Add (fp2Mul a.c1 b.c2) (fp2Mul a.c2 b.c1))),
   fp2Add (fp2Add (fp2Mul a.c0 b.c1) (fp2Mul a.c1 b.c0)) (mulXi (fp2Mul a.c2 b.c2)),
   fp2Add (fp2Add (fp2Mul a.c0 b.c2) (fp2Mul a.c1 b.c1)) (fp2Mul a.c2 b.c0)⟩
def fp6Sqr (a : Fp6) : Fp6 := fp6Mul a a
/-- `MulV`: the product with `v`. -/
def mulV (a : Fp6) : Fp6 := ⟨mulXi a.c2, a.c0, a.c1⟩
def fp6Inv (a : Fp6) : Fp6 :=
  let A := fp2Sub (fp2Mul a.c0 a.c0) (mulXi (fp2Mul a.c1 a.c2))
  let B := fp2Sub (mulXi (fp2Mul a.c2 a.c2)) (fp2Mul a.c0 a.c1)
  let C := fp2Sub (fp2Mul a.c1 a.c1) (fp2Mul a.c0 a.c2)
  let F := fp2Add (fp2Mul a.c0 A) (mulXi (fp2Add (fp2Mul a.c2 B) (fp2Mul a.c1 C)))
  let i := fp2Inv F
  ⟨fp2Mul A i, fp2Mul B i, fp2Mul C i⟩
def fp6Eq (a b : Fp6) : Bool := decide (a = b)

/-! ## Fp12 (R124) -/

def fp12Zero : Fp12 := ⟨fp6Zero, fp6Zero⟩
def fp12One : Fp12 := ⟨fp6One, fp6Zero⟩

def fp12Add (a b : Fp12) : Fp12 := ⟨fp6Add a.y b.y, fp6Add a.x b.x⟩
def fp12Sub (a b : Fp12) : Fp12 := ⟨fp6Sub a.y b.y, fp6Sub a.x b.x⟩
def fp12Neg (a : Fp12) : Fp12 := ⟨fp6Neg a.y, fp6Neg a.x⟩
def fp12Mul (a b : Fp12) : Fp12 :=
  ⟨fp6Add (fp6Mul a.y b.y) (mulV (fp6Mul a.x b.x)), fp6Add (fp6Mul a.x b.y) (fp6Mul a.y b.x)⟩
def fp12Sqr (a : Fp12) : Fp12 := fp12Mul a a
def fp12Conj (a : Fp12) : Fp12 := ⟨a.y, fp6Neg a.x⟩
def fp12Inv (a : Fp12) : Fp12 :=
  let D := fp6Sub (fp6Mul a.y a.y) (mulV (fp6Mul a.x a.x))
  let i := fp6Inv D
  ⟨fp6Mul a.y i, fp6Neg (fp6Mul a.x i)⟩
def fp12Eq (a b : Fp12) : Bool := decide (a = b)
def fp12Pow (a : Fp12) (e : Nat) : Fp12 := powBy fp12Mul fp12One a e

end Sys2Proof.Machine
end

