-- ==== Sys2Proof/Machine/Rom.lean ====
section
/-! DEFINITION. The constant ROM (`10_state.md` R50 to R57): curve parameters, the same in every engine, never written.
Every digit is the spec's; the prime `p` itself is `Config.p` and `ξ` is `xi` of `Tower.lean`. -/

namespace Sys2Proof.Machine

/-- The BN integer parameter `z` (R51). -/
def bnZ : Nat := 4965661367192848881

/-- The group order `r` (R51). -/
def groupOrder : Nat := 0x30644e72e131a029b85045b68181585d2833e84879b9709143e1f593f0000001

/-- The trace `t = 6z² + 1`, with `p + 1 - t = r` (R51). -/
def trace : Nat := 147946756881789318990833708069417712967

/-- The Ate loop parameter `s = 6z + 2`, 65 bits (R51, R57). -/
def ateLoop : Nat := 29793968203157093288

/-- The coefficient `b = 3` of the G1 curve (R52). -/
def curveB : Fp := fpOfNat 3

/-- The coefficient `b' = b / ξ` of the twist curve (R52). -/
def twistB : Fp2 :=
  fp2OfNat 0x2b149d40ceb8aaae81be18991be06ac3b5b4c5e559dbefa33267e6dc24a138e5
    0x009713b03af0fed4cd2cafadeed8fdf4a74fa084e52d1852e4a2bd0685c315d2

/-- `G1GEN = (1, 2)` (R54). -/
def g1Gen : G1Point := .affine (fpOfNat 1) (fpOfNat 2)

/-- `G2GEN` (R54). -/
def g2Gen : G2Point :=
  .affine
    (fp2OfNat 0x1800deef121f1e76426a00665e5c4479674322d4f75edadd46debd5cd992f6ed
      0x198e9393920d483a7260bfb731fb5d25f1aa493335a9e71297e485b7aef312c2)
    (fp2OfNat 0x12c85ea5db8c6deb4aab71808dcb408fe3d1e7690c43d37b4ce6cc0166fa7daa
      0x090689d0585ff075ec9e99ad690c3395bc4b313370b38ef355acdadcd122975b)

/-- The Frobenius constants `γ[1][k] = ξ^(k(p^1-1)/6)`, `k = 0..5` (R55). -/
def gamma1 : List Fp2 :=
  [fp2One,
   fp2OfNat 0x1284b71c2865a7dfe8b99fdd76e68b605c521e08292f2176d60b35dadcc9e470
     0x246996f3b4fae7e6a6327cfe12150b8e747992778eeec7e5ca5cf05f80f362ac,
   fp2OfNat 0x2fb347984f7911f74c0bec3cf559b143b78cc310c2c3330c99e39557176f553d
     0x16c9e55061ebae204ba4cc8bd75a079432ae2a1d0b7c9dce1665d51c640fcba2,
   fp2OfNat 0x063cf305489af5dcdc5ec698b6e2f9b9dbaae0eda9c95998dc54014671a0135a
     0x07c03cbcac41049a0704b5a7ec796f2b21807dc98fa25bd282d37f632623b0e3,
   fp2OfNat 0x05b54f5e64eea80180f3c0b75a181e84d33365f7be94ec72848a1f55921ea762
     0x2c145edbe7fd8aee9f3a80b03b0b1c923685d2ea1bdec763c13b4711cd2b8126,
   fp2OfNat 0x0183c1e74f798649e93a3661a4353ff4425c459b55aa1bd32ea2c810eab7692f
     0x12acf2ca76fd0675a27fb246c7729f7db080cb99678e2ac024c6b8ee6e0c2c4b]

/-- The Frobenius constants `γ[2][k] = ξ^(k(p^2-1)/6)`, `k = 0..5` (R55). -/
def gamma2 : List Fp2 :=
  [fp2One,
   fp2OfNat 0x30644e72e131a0295e6dd9e7e0acccb0c28f069fbb966e3de4bd44e5607cfd49
     0x0000000000000000000000000000000000000000000000000000000000000000,
   fp2OfNat 0x30644e72e131a0295e6dd9e7e0acccb0c28f069fbb966e3de4bd44e5607cfd48
     0x0000000000000000000000000000000000000000000000000000000000000000,
   fp2OfNat 0x30644e72e131a029b85045b68181585d97816a916871ca8d3c208c16d87cfd46
     0x0000000000000000000000000000000000000000000000000000000000000000,
   fp2OfNat 0x000000000000000059e26bcea0d48bacd4f263f1acdb5c4f5763473177fffffe
     0x0000000000000000000000000000000000000000000000000000000000000000,
   fp2OfNat 0x000000000000000059e26bcea0d48bacd4f263f1acdb5c4f5763473177ffffff
     0x0000000000000000000000000000000000000000000000000000000000000000]

/-- The Frobenius constants `γ[3][k] = ξ^(k(p^3-1)/6)`, `k = 0..5` (R55). -/
def gamma3 : List Fp2 :=
  [fp2One,
   fp2OfNat 0x19dc81cfcc82e4bbefe9608cd0acaa90894cb38dbe55d24ae86f7d391ed4a67f
     0x00abf8b60be77d7306cbeee33576139d7f03a5e397d439ec7694aa2bf4c0c101,
   fp2OfNat 0x0856e078b755ef0abaff1c77959f25ac805ffd3d5d6942d37b746ee87bdcfb6d
     0x04f1de41b3d1766fa9f30e6dec26094f0fdf31bf98ff2631380cab2baaa586de,
   fp2OfNat 0x2a275b6d9896aa4cdbf17f1dca9e5ea3bbd689a3bea870f45fcc8ad066dce9ed
     0x28a411b634f09b8fb14b900e9507e9327600ecc7d8cf6ebab94d0cb3b2594c64,
   fp2OfNat 0x0bc58c6611c08dab19bee0f7b5b2444ee633094575b06bcb0e1a92bc3ccbf066
     0x23d5e999e1910a12feb0f6ef0cd21d04a44a9e08737f96e55fe3ed9d730c239f,
   fp2OfNat 0x13c49044952c0905711699fa3b4d3f692ed68098967c84a5ebde847076261b43
     0x16db366a59b1dd0b9fb1b2282a48633d3e2ddaea200280211f25041384282499]

/-- `γ[j][k]` for `j` in `{1, 2, 3}` and `k` in `{0..5}` (R55); no other index is used. -/
def gamma (j k : Nat) : Fp2 :=
  match j with
  | 1 => gamma1.getD k fp2Zero
  | 2 => gamma2.getD k fp2Zero
  | _ => gamma3.getD k fp2Zero

end Sys2Proof.Machine
end

