-- ==== Sys2Proof/Machine/Curve.lean ====
section
/-! DEFINITION. The group laws. The law of the twist curve is the law of G1 with every Fp operation replaced by the Fp2
operation of the same name (`42_g2.md` R231), so the law is written once over a record of field operations and used at Fp
and Fp2. The ladder is `43_scalar_mult.md` R263, whose result is normative. -/

namespace Sys2Proof.Machine

/-- The operations of the coordinate field a group law needs; `two` and `three` are the constants of R201, R202. -/
structure FieldOps (F : Type) where
  zero : F
  two : F
  three : F
  add : F → F → F
  sub : F → F → F
  neg : F → F
  mul : F → F → F
  inv : F → F

/-- The operations of Fp. -/
def fpOps : FieldOps Fp :=
  ⟨fpZero, fpOfNat 2, fpOfNat 3, fpAdd, fpSub, fpNeg, fpMul, fpInv⟩

/-- The operations of Fp2; 2 and 3 are `(2,0)` and `(3,0)` (`42_g2.md` R231). -/
def fp2Ops : FieldOps Fp2 :=
  ⟨fp2Zero, fp2OfNat 2 0, fp2OfNat 3 0, fp2Add, fp2Sub, fp2Neg, fp2Mul, fp2Inv⟩

section
variable {F : Type} [DecidableEq F] (K : FieldOps F)

/-- The point of the chord or tangent of slope `l` through `(x1, y1)` and a point of abscissa `x2`:
`x3 = l·l - x1 - x2`, `y3 = l·(x1 - x3) - y1` (`41_g1.md` R201, R202). -/
def chordPoint (l x1 y1 x2 : F) : Point F :=
  let x3 := K.sub (K.sub (K.mul l l) x1) x2
  .affine x3 (K.sub (K.mul l (K.sub x1 x3)) y1)

/-- The slope of the tangent at `(x, y)`: `(3·x·x) · inv(2·y)` (R202). -/
def tangentSlope (x y : F) : F := K.mul (K.mul (K.mul K.three x) x) (K.inv (K.mul K.two y))

/-- The slope of the chord: `(y2 - y1) · inv(x2 - x1)` (R201). -/
def chordSlope (x1 y1 x2 y2 : F) : F := K.mul (K.sub y2 y1) (K.inv (K.sub x2 x1))

/-- `Dbl(A)` (`41_g1.md` R202): `x3 = λ·λ - 2·x`. -/
def pointDbl (A : Point F) : Point F :=
  match A with
  | .infinity => .infinity
  | .affine x y =>
    if y = K.zero then .infinity
    else
      let l := tangentSlope K x y
      let x3 := K.sub (K.mul l l) (K.mul K.two x)
      .affine x3 (K.sub (K.mul l (K.sub x x3)) y)

/-- `Add(A, B)` (`41_g1.md` R201). -/
def pointAdd (A B : Point F) : Point F :=
  match A, B with
  | .infinity, B => B
  | A, .infinity => A
  | .affine x1 y1, .affine x2 y2 =>
    if x1 = x2 ∧ y1 = y2 then pointDbl K (.affine x1 y1)
    else if x1 = x2 then .infinity
    else chordPoint K (chordSlope K x1 y1 x2 y2) x1 y1 x2

/-- `Neg(A)` (`41_g1.md` R203). -/
def pointNeg (A : Point F) : Point F :=
  match A with
  | .infinity => .infinity
  | .affine x y => .affine x (K.neg y)

/-- Equality of group elements (`41_g1.md` R205). -/
def pointEq (A B : Point F) : Bool :=
  match A, B with
  | .infinity, .infinity => true
  | .affine x1 y1, .affine x2 y2 => decide (x1 = x2 ∧ y1 = y2)
  | _, _ => false

/-- `A` is the identity. -/
def pointIsId (A : Point F) : Bool :=
  match A with
  | .infinity => true
  | .affine _ _ => false

/-- `y² = x³ + b`; true for the identity (`41_g1.md` R200, `42_g2.md` R230). -/
def pointOnCurve (b : F) (A : Point F) : Bool :=
  match A with
  | .infinity => true
  | .affine x y => decide (K.mul y y = K.add (K.mul (K.mul x x) x) b)

/-- `Mul(A, n)`: `A` added to itself `n` times (`43_scalar_mult.md` R260). The definition the ladder is measured against. -/
def pointMul (A : Point F) : Nat → Point F
  | 0 => .infinity
  | n + 1 => pointAdd K (pointMul A n) A

/-- The ladder of `43_scalar_mult.md` R263: from `R`, for each of the low `n` bits of `k`, most significant first: double,
always add, select. -/
def ladderFrom (A : Point F) (k : Nat) : Nat → Point F → Point F
  | 0, R => R
  | n + 1, R =>
    let D := pointDbl K R
    let S := pointAdd K D A
    ladderFrom A k n (if k.testBit n then S else D)

/-- The ladder over its 254 iterations (R263): `Mul(A, k)` for `k < 2^254`. -/
def ladder (A : Point F) (k : Nat) : Point F := ladderFrom K A k Config.SMUL_ITER .infinity

/-- `ScalarMul`: the scalar is reduced modulo `r` first (`43_scalar_mult.md` R261). -/
def scalarMul (A : Point F) (k : Nat) : Point F := ladder K A (k % groupOrder)

/-- `InSubgroup(A)`: `Mul(A, r) = O` with `r` not reduced (`41_g1.md` R206, `42_g2.md` R232). -/
def inSubgroup (A : Point F) : Bool := pointIsId (ladder K A groupOrder)

end

/-! ## G1 (`41_g1.md`) -/

def add1 : G1Point → G1Point → G1Point := pointAdd fpOps
def dbl1 : G1Point → G1Point := pointDbl fpOps
def neg1 : G1Point → G1Point := pointNeg fpOps
def eq1 : G1Point → G1Point → Bool := pointEq
def onCurve1 : G1Point → Bool := pointOnCurve fpOps curveB
def mul1 : G1Point → Nat → G1Point := pointMul fpOps
def smul1 : G1Point → Nat → G1Point := scalarMul fpOps
def inSubgroup1 : G1Point → Bool := inSubgroup fpOps

/-! ## The twist curve (`42_g2.md` R231, R232) -/

def add2 : G2Point → G2Point → G2Point := pointAdd fp2Ops
def dbl2 : G2Point → G2Point := pointDbl fp2Ops
def neg2 : G2Point → G2Point := pointNeg fp2Ops
def eq2 : G2Point → G2Point → Bool := pointEq
def onCurve2 : G2Point → Bool := pointOnCurve fp2Ops twistB
def mul2 : G2Point → Nat → G2Point := pointMul fp2Ops
def smul2 : G2Point → Nat → G2Point := scalarMul fp2Ops
def inSubgroup2 : G2Point → Bool := inSubgroup fp2Ops

/-- The Frobenius map `π` on the twist curve (`42_g2.md` R233). -/
def frobPoint (A : G2Point) : G2Point :=
  match A with
  | .infinity => .infinity
  | .affine x y => .affine (fp2Mul (fp2Conj x) (gamma 1 2)) (fp2Mul (fp2Conj y) (gamma 1 3))

/-- `π²` on the twist curve (`42_g2.md` R233). -/
def frobSqPoint (A : G2Point) : G2Point :=
  match A with
  | .infinity => .infinity
  | .affine x y => .affine (fp2Mul x (gamma 2 2)) (fp2Mul y (gamma 2 3))

end Sys2Proof.Machine
end

