-- ==== Sys2Proof/Machine/Codec.lean ====
section
/-! DEFINITION. The canonical byte encodings (`46_point_encoding.md` R310 to R319): byte strings are lists, first byte
first; blocks are big-endian, highest coefficient first. -/

namespace Sys2Proof.Machine

/-- `be(B)`: the big-endian integer of a byte string (`00_scope.md`, notation). -/
def be (B : List Byte) : Nat := B.foldl (fun acc b => acc * 256 + b.toNat) 0

/-- The low `n` bytes of an integer, most significant first. -/
def beBytes : Nat → Nat → List Byte
  | 0, _ => []
  | n + 1, v => BitVec.ofNat 8 (v / 256 ^ n) :: beBytes n v

/-- `be32(n)` (`00_scope.md`, notation). -/
def be32 (n : Nat) : List Byte := beBytes 32 n

/-- `zeros(n)`. -/
def zeros (n : Nat) : List Byte := List.replicate n 0

/-- `B[i:j]`. -/
def bytesFrom (B : List Byte) (i j : Nat) : List Byte := (B.drop i).take (j - i)

/-! ## Field elements -/

/-- `EncFp` (R310). -/
def encFp (a : Fp) : List Byte := be32 a.val

/-- An integer that must be a canonical representative (R310): no reduction is applied. -/
def canonical (v : Nat) : Except Exn Fp :=
  if h : v < Config.p then .ok ⟨v, h⟩ else .error .nonCanonical

/-- `DecFp` (R310). -/
def decFp (B : List Byte) : Except Exn Fp := canonical (be B)

/-- `EncFp2`: the coefficient of `u` first (R311). -/
def encFp2 (a : Fp2) : List Byte := encFp a.a1 ++ encFp a.a0

/-- `DecFp2` (R311). -/
def decFp2 (B : List Byte) : Except Exn Fp2 := do
  let a0 ← decFp (bytesFrom B 32 64)
  let a1 ← decFp (bytesFrom B 0 32)
  return ⟨a0, a1⟩

/-- `EncFp6`: the coefficient of `v²` first (R312). -/
def encFp6 (a : Fp6) : List Byte := encFp2 a.c2 ++ encFp2 a.c1 ++ encFp2 a.c0

/-- `DecFp6` (R312). -/
def decFp6 (B : List Byte) : Except Exn Fp6 := do
  let c0 ← decFp2 (bytesFrom B 128 192)
  let c1 ← decFp2 (bytesFrom B 64 128)
  let c2 ← decFp2 (bytesFrom B 0 64)
  return ⟨c0, c1, c2⟩

/-- `EncFp12`: the coefficient of `ω` first (R313). -/
def encFp12 (a : Fp12) : List Byte := encFp6 a.x ++ encFp6 a.y

/-- `DecFp12` (R313). -/
def decFp12 (B : List Byte) : Except Exn Fp12 := do
  let x ← decFp6 (bytesFrom B 0 192)
  let y ← decFp6 (bytesFrom B 192 384)
  return ⟨y, x⟩

/-! ## Signs and square roots -/

/-- `Sgn1` (R316). -/
def sgn1 (y : Fp) : Nat := y.val % 2

/-- `Sgn2` (R316). -/
def sgn2 (y : Fp2) : Nat := if y.a0.val ≠ 0 then y.a0.val % 2 else y.a1.val % 2

/-- `FpSqrt(w) = w^((p+1)/4)` if its square is `w` (R317). -/
def fpSqrt (w : Fp) : Option Fp :=
  let y := fpPow w ((Config.p + 1) / 4)
  if fpMul y y = w then some y else none

/-- `p - 1` as an Fp2 element. -/
def fp2MinusOne : Fp2 := fp2OfNat (Config.p - 1) 0

/-- `Fp2Sqrt`, the spec's reference algorithm (R318); which root it gives is not observable. -/
def fp2Sqrt (w : Fp2) : Option Fp2 :=
  if w = fp2Zero then some fp2Zero
  else
    let a1 := fp2Pow w ((Config.p - 3) / 4)
    let α := fp2Mul (fp2Mul a1 a1) w
    if fp2Mul (fp2Conj α) α = fp2MinusOne then none
    else
      let x0 := fp2Mul a1 w
      let y :=
        if α = fp2MinusOne then fp2Mul (fp2OfNat 0 1) x0
        else fp2Mul (fp2Pow (fp2Add α fp2One) ((Config.p - 1) / 2)) x0
      if fp2Mul y y = w then some y else none

/-! ## Points -/

/-- `EncG1` (R314). -/
def encG1 (A : G1Point) : List Byte :=
  match A with
  | .infinity => zeros 64
  | .affine x y => encFp x ++ encFp y

/-- The decoded pair, if it is on the curve (R314, R315). -/
def checkedPoint {F : Type} (onCurve : Point F → Bool) (x y : F) : Except Exn (Point F) :=
  if onCurve (.affine x y) then .ok (.affine x y) else .error .notOnCurve

/-- `DecG1` (R314). -/
def decG1 (B : List Byte) : Except Exn G1Point :=
  if B = zeros 64 then .ok .infinity
  else do
    let x ← decFp (bytesFrom B 0 32)
    let y ← decFp (bytesFrom B 32 64)
    checkedPoint onCurve1 x y

/-- `EncG2` (R315). -/
def encG2 (A : G2Point) : List Byte :=
  match A with
  | .infinity => zeros 128
  | .affine x y => encFp2 x ++ encFp2 y

/-- `DecG2` (R315). -/
def decG2 (B : List Byte) : Except Exn G2Point :=
  if B = zeros 128 then .ok .infinity
  else do
    let x ← decFp2 (bytesFrom B 0 64)
    let y ← decFp2 (bytesFrom B 64 128)
    checkedPoint onCurve2 x y

/-- `EncG1C`: the x block with the sign of y in bit 7 of its first byte (R317). -/
def encG1C (A : G1Point) : List Byte :=
  match A with
  | .infinity => zeros 32
  | .affine x y => be32 (x.val + 2 ^ 255 * sgn1 y)

/-- The last steps of a compressed decoding (R317, R318): the root of sign `S`; a zero root has sign 0 only. -/
def withSign {F : Type} [DecidableEq F] (zero : F) (neg : F → F) (sgn : F → Nat) (S : Nat) (x : F) (root : Option F) :
    Except Exn (Point F) :=
  match root with
  | none => .error .notOnCurve
  | some y =>
    if y = zero then (if S = 1 then .error .nonCanonical else .ok (.affine x y))
    else if sgn y ≠ S then .ok (.affine x (neg y))
    else .ok (.affine x y)

/-- `DecG1C` (R317). -/
def decG1C (B : List Byte) : Except Exn G1Point :=
  if B = zeros 32 then .ok .infinity
  else do
    let x ← canonical (be B % 2 ^ 255)
    withSign fpZero fpNeg sgn1 (be B / 2 ^ 255) x
      (fpSqrt (fpAdd (fpMul (fpMul x x) x) curveB))

/-- The byte string with bit 7 of byte 0 replaced by the sign (R318). -/
def putSign (S : Nat) (B : List Byte) : List Byte :=
  match B with
  | [] => []
  | b :: bs => BitVec.ofNat 8 (b.toNat % 128 + 128 * S) :: bs

/-- Bit 7 of byte 0 (R318). -/
def getSign (B : List Byte) : Nat :=
  match B with
  | [] => 0
  | b :: _ => b.toNat / 128

/-- `EncG2C` (R318). -/
def encG2C (A : G2Point) : List Byte :=
  match A with
  | .infinity => zeros 64
  | .affine x y => putSign (sgn2 y) (encFp2 x)

/-- `DecG2C` (R318). -/
def decG2C (B : List Byte) : Except Exn G2Point :=
  if B = zeros 64 then .ok .infinity
  else do
    let x ← decFp2 (putSign 0 B)
    withSign fp2Zero fp2Neg sgn2 (getSign B) x
      (fp2Sqrt (fp2Add (fp2Mul (fp2Mul x x) x) twistB))

/-- `DecScalar`: any 256-bit value, no canonical check (R319). -/
def decScalar (B : List Byte) : BitVec 256 := BitVec.ofNat 256 (be B)

end Sys2Proof.Machine
end

