-- ==== Sys2Proof/Syntax.lean ====
section
/-! DEFINITION. The command set: one constructor for each of the 96 rows of `opcode_table.json` (`30_encoding.md` R105),
with the register fields its format uses, in the order `rd`, `ra`, `rb` (R102, R110). A field is the raw 4-bit index of the
word; whether it is below the size of its file is `WellFormed.lean` (R103). -/

namespace Sys2Proof

/-- Index of a field-element register `E0..E15` (R103). -/
abbrev EIdx := RegIdx

/-- Index of a G1 point register `P0..P7`: below 8 in a well-formed command (R103). -/
abbrev PIdx := RegIdx

/-- Index of a G2 point register `Q0..Q7`: below 8 in a well-formed command (R103). -/
abbrev QIdx := RegIdx

/-- Index of a scalar register `K0..K3`: below 4 in a well-formed command (R103). -/
abbrev KIdx := RegIdx

/-- A command. -/
inductive Instr where
  /-- `NOP`, opcode `0x00`, format N (`47_system.md` R350). -/
  | nop
  /-- `ZEROIZE`, opcode `0x01`, format N (`47_system.md` R351). -/
  | zeroize
  /-- `E.MOV`, opcode `0x02`, format DA (`47_system.md` R352). -/
  | eMov (rd : EIdx) (ra : EIdx)
  /-- `FP.ADD`, opcode `0x10`, format DAB (`40_fp_tower.md` R131). -/
  | fpAdd (rd : EIdx) (ra : EIdx) (rb : EIdx)
  /-- `FP.SUB`, opcode `0x11`, format DAB (`40_fp_tower.md` R132). -/
  | fpSub (rd : EIdx) (ra : EIdx) (rb : EIdx)
  /-- `FP.NEG`, opcode `0x12`, format DA (`40_fp_tower.md` R133). -/
  | fpNeg (rd : EIdx) (ra : EIdx)
  /-- `FP.MUL`, opcode `0x13`, format DAB (`40_fp_tower.md` R134). -/
  | fpMul (rd : EIdx) (ra : EIdx) (rb : EIdx)
  /-- `FP.SQR`, opcode `0x14`, format DA (`40_fp_tower.md` R135). -/
  | fpSqr (rd : EIdx) (ra : EIdx)
  /-- `FP.INV`, opcode `0x15`, format DA (`40_fp_tower.md` R136). -/
  | fpInv (rd : EIdx) (ra : EIdx)
  /-- `FP.EQ`, opcode `0x16`, format AB (`40_fp_tower.md` R137). -/
  | fpEq (ra : EIdx) (rb : EIdx)
  /-- `FP.ZERO`, opcode `0x17`, format D (`40_fp_tower.md` R138). -/
  | fpZero (rd : EIdx)
  /-- `FP.ONE`, opcode `0x18`, format D (`40_fp_tower.md` R139). -/
  | fpOne (rd : EIdx)
  /-- `FP.LD`, opcode `0x19`, format D (`46_point_encoding.md` R323). -/
  | fpLd (rd : EIdx)
  /-- `FP.ST`, opcode `0x1A`, format A (`46_point_encoding.md` R324). -/
  | fpSt (ra : EIdx)
  /-- `FP2.ADD`, opcode `0x20`, format DAB (`40_fp_tower.md` R141). -/
  | fp2Add (rd : EIdx) (ra : EIdx) (rb : EIdx)
  /-- `FP2.SUB`, opcode `0x21`, format DAB (`40_fp_tower.md` R142). -/
  | fp2Sub (rd : EIdx) (ra : EIdx) (rb : EIdx)
  /-- `FP2.NEG`, opcode `0x22`, format DA (`40_fp_tower.md` R143). -/
  | fp2Neg (rd : EIdx) (ra : EIdx)
  /-- `FP2.MUL`, opcode `0x23`, format DAB (`40_fp_tower.md` R144). -/
  | fp2Mul (rd : EIdx) (ra : EIdx) (rb : EIdx)
  /-- `FP2.SQR`, opcode `0x24`, format DA (`40_fp_tower.md` R145). -/
  | fp2Sqr (rd : EIdx) (ra : EIdx)
  /-- `FP2.INV`, opcode `0x25`, format DA (`40_fp_tower.md` R146). -/
  | fp2Inv (rd : EIdx) (ra : EIdx)
  /-- `FP2.EQ`, opcode `0x26`, format AB (`40_fp_tower.md` R147). -/
  | fp2Eq (ra : EIdx) (rb : EIdx)
  /-- `FP2.ZERO`, opcode `0x27`, format D (`40_fp_tower.md` R148). -/
  | fp2Zero (rd : EIdx)
  /-- `FP2.ONE`, opcode `0x28`, format D (`40_fp_tower.md` R149). -/
  | fp2One (rd : EIdx)
  /-- `FP2.LD`, opcode `0x29`, format D (`46_point_encoding.md` R325). -/
  | fp2Ld (rd : EIdx)
  /-- `FP2.ST`, opcode `0x2A`, format A (`46_point_encoding.md` R326). -/
  | fp2St (ra : EIdx)
  /-- `FP6.ADD`, opcode `0x30`, format DAB (`40_fp_tower.md` R151). -/
  | fp6Add (rd : EIdx) (ra : EIdx) (rb : EIdx)
  /-- `FP6.SUB`, opcode `0x31`, format DAB (`40_fp_tower.md` R152). -/
  | fp6Sub (rd : EIdx) (ra : EIdx) (rb : EIdx)
  /-- `FP6.NEG`, opcode `0x32`, format DA (`40_fp_tower.md` R153). -/
  | fp6Neg (rd : EIdx) (ra : EIdx)
  /-- `FP6.MUL`, opcode `0x33`, format DAB (`40_fp_tower.md` R154). -/
  | fp6Mul (rd : EIdx) (ra : EIdx) (rb : EIdx)
  /-- `FP6.SQR`, opcode `0x34`, format DA (`40_fp_tower.md` R155). -/
  | fp6Sqr (rd : EIdx) (ra : EIdx)
  /-- `FP6.INV`, opcode `0x35`, format DA (`40_fp_tower.md` R156). -/
  | fp6Inv (rd : EIdx) (ra : EIdx)
  /-- `FP6.EQ`, opcode `0x36`, format AB (`40_fp_tower.md` R157). -/
  | fp6Eq (ra : EIdx) (rb : EIdx)
  /-- `FP6.ZERO`, opcode `0x37`, format D (`40_fp_tower.md` R158). -/
  | fp6Zero (rd : EIdx)
  /-- `FP6.ONE`, opcode `0x38`, format D (`40_fp_tower.md` R159). -/
  | fp6One (rd : EIdx)
  /-- `FP6.LD`, opcode `0x39`, format D (`46_point_encoding.md` R327). -/
  | fp6Ld (rd : EIdx)
  /-- `FP6.ST`, opcode `0x3A`, format A (`46_point_encoding.md` R328). -/
  | fp6St (ra : EIdx)
  /-- `FP12.ADD`, opcode `0x40`, format DAB (`40_fp_tower.md` R161). -/
  | fp12Add (rd : EIdx) (ra : EIdx) (rb : EIdx)
  /-- `FP12.SUB`, opcode `0x41`, format DAB (`40_fp_tower.md` R162). -/
  | fp12Sub (rd : EIdx) (ra : EIdx) (rb : EIdx)
  /-- `FP12.NEG`, opcode `0x42`, format DA (`40_fp_tower.md` R163). -/
  | fp12Neg (rd : EIdx) (ra : EIdx)
  /-- `FP12.MUL`, opcode `0x43`, format DAB (`40_fp_tower.md` R164). -/
  | fp12Mul (rd : EIdx) (ra : EIdx) (rb : EIdx)
  /-- `FP12.SQR`, opcode `0x44`, format DA (`40_fp_tower.md` R165). -/
  | fp12Sqr (rd : EIdx) (ra : EIdx)
  /-- `FP12.INV`, opcode `0x45`, format DA (`40_fp_tower.md` R166). -/
  | fp12Inv (rd : EIdx) (ra : EIdx)
  /-- `FP12.EQ`, opcode `0x46`, format AB (`40_fp_tower.md` R167). -/
  | fp12Eq (ra : EIdx) (rb : EIdx)
  /-- `FP12.ZERO`, opcode `0x47`, format D (`40_fp_tower.md` R168). -/
  | fp12Zero (rd : EIdx)
  /-- `FP12.ONE`, opcode `0x48`, format D (`40_fp_tower.md` R169). -/
  | fp12One (rd : EIdx)
  /-- `FP12.LD`, opcode `0x49`, format D (`46_point_encoding.md` R329). -/
  | fp12Ld (rd : EIdx)
  /-- `FP12.ST`, opcode `0x4A`, format A (`46_point_encoding.md` R330). -/
  | fp12St (ra : EIdx)
  /-- `GT.MUL`, opcode `0x50`, format DAB (`44_pairing.md` R289). -/
  | gtMul (rd : EIdx) (ra : EIdx) (rb : EIdx)
  /-- `GT.INV`, opcode `0x51`, format DA (`44_pairing.md` R290). -/
  | gtInv (rd : EIdx) (ra : EIdx)
  /-- `GT.EXP`, opcode `0x52`, format DAB (`44_pairing.md` R291). -/
  | gtExp (rd : EIdx) (ra : EIdx) (rb : KIdx)
  /-- `GT.EQ`, opcode `0x53`, format AB (`44_pairing.md` R292). -/
  | gtEq (ra : EIdx) (rb : EIdx)
  /-- `GT.ISONE`, opcode `0x54`, format A (`44_pairing.md` R293). -/
  | gtIsOne (ra : EIdx)
  /-- `GT.ONE`, opcode `0x55`, format D (`44_pairing.md` R294). -/
  | gtOne (rd : EIdx)
  /-- `GT.ST`, opcode `0x56`, format A (`46_point_encoding.md` R331). -/
  | gtSt (ra : EIdx)
  /-- `GT.TOFP12`, opcode `0x57`, format DA (`44_pairing.md` R295). -/
  | gtToFp12 (rd : EIdx) (ra : EIdx)
  /-- `G1.ADD`, opcode `0x60`, format DAB (`41_g1.md` R207). -/
  | g1Add (rd : PIdx) (ra : PIdx) (rb : PIdx)
  /-- `G1.DBL`, opcode `0x61`, format DA (`41_g1.md` R208). -/
  | g1Dbl (rd : PIdx) (ra : PIdx)
  /-- `G1.NEG`, opcode `0x62`, format DA (`41_g1.md` R209). -/
  | g1Neg (rd : PIdx) (ra : PIdx)
  /-- `G1.ISONCURVE`, opcode `0x63`, format A (`41_g1.md` R210). -/
  | g1IsOnCurve (ra : PIdx)
  /-- `G1.ISID`, opcode `0x64`, format A (`41_g1.md` R211). -/
  | g1IsId (ra : PIdx)
  /-- `G1.EQ`, opcode `0x65`, format AB (`41_g1.md` R212). -/
  | g1Eq (ra : PIdx) (rb : PIdx)
  /-- `G1.CHKSUB`, opcode `0x66`, format A (`41_g1.md` R213). -/
  | g1ChkSub (ra : PIdx)
  /-- `G1.SETID`, opcode `0x67`, format D (`41_g1.md` R214). -/
  | g1SetId (rd : PIdx)
  /-- `G1.GEN`, opcode `0x68`, format D (`41_g1.md` R215). -/
  | g1Gen (rd : PIdx)
  /-- `G1.LD`, opcode `0x69`, format D (`46_point_encoding.md` R332). -/
  | g1Ld (rd : PIdx)
  /-- `G1.ST`, opcode `0x6A`, format A (`46_point_encoding.md` R333). -/
  | g1St (ra : PIdx)
  /-- `G1.LDC`, opcode `0x6B`, format D (`46_point_encoding.md` R334). -/
  | g1Ldc (rd : PIdx)
  /-- `G1.STC`, opcode `0x6C`, format A (`46_point_encoding.md` R335). -/
  | g1Stc (ra : PIdx)
  /-- `G1.MOV`, opcode `0x6D`, format DA (`41_g1.md` R216). -/
  | g1Mov (rd : PIdx) (ra : PIdx)
  /-- `G1.SMUL`, opcode `0x6E`, format DAB (`43_scalar_mult.md` R264). -/
  | g1Smul (rd : PIdx) (ra : PIdx) (rb : KIdx)
  /-- `G2.ADD`, opcode `0x70`, format DAB (`42_g2.md` R234). -/
  | g2Add (rd : QIdx) (ra : QIdx) (rb : QIdx)
  /-- `G2.DBL`, opcode `0x71`, format DA (`42_g2.md` R235). -/
  | g2Dbl (rd : QIdx) (ra : QIdx)
  /-- `G2.NEG`, opcode `0x72`, format DA (`42_g2.md` R236). -/
  | g2Neg (rd : QIdx) (ra : QIdx)
  /-- `G2.ISONCURVE`, opcode `0x73`, format A (`42_g2.md` R237). -/
  | g2IsOnCurve (ra : QIdx)
  /-- `G2.ISID`, opcode `0x74`, format A (`42_g2.md` R238). -/
  | g2IsId (ra : QIdx)
  /-- `G2.EQ`, opcode `0x75`, format AB (`42_g2.md` R239). -/
  | g2Eq (ra : QIdx) (rb : QIdx)
  /-- `G2.CHKSUB`, opcode `0x76`, format A (`42_g2.md` R240). -/
  | g2ChkSub (ra : QIdx)
  /-- `G2.SETID`, opcode `0x77`, format D (`42_g2.md` R241). -/
  | g2SetId (rd : QIdx)
  /-- `G2.GEN`, opcode `0x78`, format D (`42_g2.md` R242). -/
  | g2Gen (rd : QIdx)
  /-- `G2.LD`, opcode `0x79`, format D (`46_point_encoding.md` R336). -/
  | g2Ld (rd : QIdx)
  /-- `G2.ST`, opcode `0x7A`, format A (`46_point_encoding.md` R337). -/
  | g2St (ra : QIdx)
  /-- `G2.LDC`, opcode `0x7B`, format D (`46_point_encoding.md` R338). -/
  | g2Ldc (rd : QIdx)
  /-- `G2.STC`, opcode `0x7C`, format A (`46_point_encoding.md` R339). -/
  | g2Stc (ra : QIdx)
  /-- `G2.MOV`, opcode `0x7D`, format DA (`42_g2.md` R243). -/
  | g2Mov (rd : QIdx) (ra : QIdx)
  /-- `G2.SMUL`, opcode `0x7E`, format DAB (`43_scalar_mult.md` R265). -/
  | g2Smul (rd : QIdx) (ra : QIdx) (rb : KIdx)
  /-- `K.LD`, opcode `0x80`, format D (`46_point_encoding.md` R340). -/
  | kLd (rd : KIdx)
  /-- `K.CLR`, opcode `0x81`, format D (`46_point_encoding.md` R341). -/
  | kClr (rd : KIdx)
  /-- `MILLER`, opcode `0x90`, format DAB (`44_pairing.md` R284). -/
  | miller (rd : EIdx) (ra : PIdx) (rb : QIdx)
  /-- `FINALEXP`, opcode `0x91`, format DA (`44_pairing.md` R285). -/
  | finalExp (rd : EIdx) (ra : EIdx)
  /-- `PAIR`, opcode `0x92`, format DAB (`44_pairing.md` R286). -/
  | pair (rd : EIdx) (ra : PIdx) (rb : QIdx)
  /-- `MLO.MUL`, opcode `0x93`, format DAB (`44_pairing.md` R287). -/
  | mloMul (rd : EIdx) (ra : EIdx) (rb : EIdx)
  /-- `MLO.ONE`, opcode `0x94`, format D (`44_pairing.md` R288). -/
  | mloOne (rd : EIdx)
  /-- `PC.CLR`, opcode `0xA0`, format N (`45_pairing_check.md` R302). -/
  | pcClr
  /-- `PC.PUSH1`, opcode `0xA1`, format A (`45_pairing_check.md` R303). -/
  | pcPush1 (ra : PIdx)
  /-- `PC.PUSH2`, opcode `0xA2`, format A (`45_pairing_check.md` R304). -/
  | pcPush2 (ra : QIdx)
  /-- `PC.RUN`, opcode `0xA3`, format N (`45_pairing_check.md` R305). -/
  | pcRun
  deriving DecidableEq, Repr

end Sys2Proof
end

