-- ==== Sys2Proof/WellFormed.lean ====
section
/-! DEFINITION. Which commands have their register indices in range (`30_encoding.md` R103, R108): below 8 for `P` and `Q`,
below 4 for `K`; every 4-bit index is an `E` register. -/

namespace Sys2Proof

/-- A `P` index is below the size of the file. -/
def inP (i : PIdx) : Bool := decide (i.toNat < Config.NP)

/-- A `Q` index is below the size of the file. -/
def inQ (i : QIdx) : Bool := decide (i.toNat < Config.NQ)

/-- A `K` index is below the size of the file. -/
def inK (i : KIdx) : Bool := decide (i.toNat < Config.NK)

/-- Every register index is below the limit of its class (R103). -/
def Instr.wellFormed : Instr → Bool
  | .nop => true
  | .zeroize => true
  | .eMov _ _ => true
  | .fpAdd _ _ _ => true
  | .fpSub _ _ _ => true
  | .fpNeg _ _ => true
  | .fpMul _ _ _ => true
  | .fpSqr _ _ => true
  | .fpInv _ _ => true
  | .fpEq _ _ => true
  | .fpZero _ => true
  | .fpOne _ => true
  | .fpLd _ => true
  | .fpSt _ => true
  | .fp2Add _ _ _ => true
  | .fp2Sub _ _ _ => true
  | .fp2Neg _ _ => true
  | .fp2Mul _ _ _ => true
  | .fp2Sqr _ _ => true
  | .fp2Inv _ _ => true
  | .fp2Eq _ _ => true
  | .fp2Zero _ => true
  | .fp2One _ => true
  | .fp2Ld _ => true
  | .fp2St _ => true
  | .fp6Add _ _ _ => true
  | .fp6Sub _ _ _ => true
  | .fp6Neg _ _ => true
  | .fp6Mul _ _ _ => true
  | .fp6Sqr _ _ => true
  | .fp6Inv _ _ => true
  | .fp6Eq _ _ => true
  | .fp6Zero _ => true
  | .fp6One _ => true
  | .fp6Ld _ => true
  | .fp6St _ => true
  | .fp12Add _ _ _ => true
  | .fp12Sub _ _ _ => true
  | .fp12Neg _ _ => true
  | .fp12Mul _ _ _ => true
  | .fp12Sqr _ _ => true
  | .fp12Inv _ _ => true
  | .fp12Eq _ _ => true
  | .fp12Zero _ => true
  | .fp12One _ => true
  | .fp12Ld _ => true
  | .fp12St _ => true
  | .gtMul _ _ _ => true
  | .gtInv _ _ => true
  | .gtExp _ _ rb => inK rb
  | .gtEq _ _ => true
  | .gtIsOne _ => true
  | .gtOne _ => true
  | .gtSt _ => true
  | .gtToFp12 _ _ => true
  | .g1Add rd ra rb => inP rd && inP ra && inP rb
  | .g1Dbl rd ra => inP rd && inP ra
  | .g1Neg rd ra => inP rd && inP ra
  | .g1IsOnCurve ra => inP ra
  | .g1IsId ra => inP ra
  | .g1Eq ra rb => inP ra && inP rb
  | .g1ChkSub ra => inP ra
  | .g1SetId rd => inP rd
  | .g1Gen rd => inP rd
  | .g1Ld rd => inP rd
  | .g1St ra => inP ra
  | .g1Ldc rd => inP rd
  | .g1Stc ra => inP ra
  | .g1Mov rd ra => inP rd && inP ra
  | .g1Smul rd ra rb => inP rd && inP ra && inK rb
  | .g2Add rd ra rb => inQ rd && inQ ra && inQ rb
  | .g2Dbl rd ra => inQ rd && inQ ra
  | .g2Neg rd ra => inQ rd && inQ ra
  | .g2IsOnCurve ra => inQ ra
  | .g2IsId ra => inQ ra
  | .g2Eq ra rb => inQ ra && inQ rb
  | .g2ChkSub ra => inQ ra
  | .g2SetId rd => inQ rd
  | .g2Gen rd => inQ rd
  | .g2Ld rd => inQ rd
  | .g2St ra => inQ ra
  | .g2Ldc rd => inQ rd
  | .g2Stc ra => inQ ra
  | .g2Mov rd ra => inQ rd && inQ ra
  | .g2Smul rd ra rb => inQ rd && inQ ra && inK rb
  | .kLd rd => inK rd
  | .kClr rd => inK rd
  | .miller _ ra rb => inP ra && inQ rb
  | .finalExp _ _ => true
  | .pair _ ra rb => inP ra && inQ rb
  | .mloMul _ _ _ => true
  | .mloOne _ => true
  | .pcClr => true
  | .pcPush1 ra => inP ra
  | .pcPush2 ra => inQ ra
  | .pcRun => true

end Sys2Proof
end

