-- ==== Sys2Proof/Decode.lean ====
section
/-! DEFINITION. The decoder of the 32-bit command word, total and rejecting by name (`30_encoding.md` R100 to R109), and
after it the encoder, written from the same tables. The command word is one register write, so there is no byte order
(`20_memory.md` R74). -/

namespace Sys2Proof

/-- Why a word is no command; the value of `SUB` in `IllegalCommand` is beside each (`30_encoding.md` R106 to R108). -/
inductive Illegal where
  /-- `SUB = 1`: the opcode is reserved (R107). -/
  | reservedOpcode
  /-- `SUB = 2`: bits 11:0 or a register field the format does not use are not zero (R106). -/
  | nonZeroField
  /-- `SUB = 3`: a used register index is at or above the limit of its class (R108). -/
  | indexOutOfRange
  deriving DecidableEq, Repr

/-- The register file a field selects (R103). -/
inductive RegClass where
  | e
  | p
  | q
  | k
  deriving DecidableEq, Repr

/-- The size of a register file: an index must be below it (R103). -/
def RegClass.limit : RegClass → Nat
  | .e => Config.NE
  | .p => Config.NP
  | .q => Config.NQ
  | .k => Config.NK

/-- One row of the opcode map (R105): the opcode, the class of each register field (`none` where the format does not use
it), and the command for the fields `rd ra rb`. -/
structure OpcodeRow where
  opcode : Nat
  rd : Option RegClass
  ra : Option RegClass
  rb : Option RegClass
  build : RegIdx → RegIdx → RegIdx → Instr

/-- Opcode map, family `0x0` (R105). -/
def rowsSystem : List OpcodeRow :=
  [⟨0x00, none, none, none, fun _ _ _ => .nop⟩,
   ⟨0x01, none, none, none, fun _ _ _ => .zeroize⟩,
   ⟨0x02, some .e, some .e, none, fun rd ra _ => .eMov rd ra⟩]

/-- Opcode map, family `0x1` (R105). -/
def rowsFp : List OpcodeRow :=
  [⟨0x10, some .e, some .e, some .e, fun rd ra rb => .fpAdd rd ra rb⟩,
   ⟨0x11, some .e, some .e, some .e, fun rd ra rb => .fpSub rd ra rb⟩,
   ⟨0x12, some .e, some .e, none, fun rd ra _ => .fpNeg rd ra⟩,
   ⟨0x13, some .e, some .e, some .e, fun rd ra rb => .fpMul rd ra rb⟩,
   ⟨0x14, some .e, some .e, none, fun rd ra _ => .fpSqr rd ra⟩,
   ⟨0x15, some .e, some .e, none, fun rd ra _ => .fpInv rd ra⟩,
   ⟨0x16, none, some .e, some .e, fun _ ra rb => .fpEq ra rb⟩,
   ⟨0x17, some .e, none, none, fun rd _ _ => .fpZero rd⟩,
   ⟨0x18, some .e, none, none, fun rd _ _ => .fpOne rd⟩,
   ⟨0x19, some .e, none, none, fun rd _ _ => .fpLd rd⟩,
   ⟨0x1A, none, some .e, none, fun _ ra _ => .fpSt ra⟩]

/-- Opcode map, family `0x2` (R105). -/
def rowsFp2 : List OpcodeRow :=
  [⟨0x20, some .e, some .e, some .e, fun rd ra rb => .fp2Add rd ra rb⟩,
   ⟨0x21, some .e, some .e, some .e, fun rd ra rb => .fp2Sub rd ra rb⟩,
   ⟨0x22, some .e, some .e, none, fun rd ra _ => .fp2Neg rd ra⟩,
   ⟨0x23, some .e, some .e, some .e, fun rd ra rb => .fp2Mul rd ra rb⟩,
   ⟨0x24, some .e, some .e, none, fun rd ra _ => .fp2Sqr rd ra⟩,
   ⟨0x25, some .e, some .e, none, fun rd ra _ => .fp2Inv rd ra⟩,
   ⟨0x26, none, some .e, some .e, fun _ ra rb => .fp2Eq ra rb⟩,
   ⟨0x27, some .e, none, none, fun rd _ _ => .fp2Zero rd⟩,
   ⟨0x28, some .e, none, none, fun rd _ _ => .fp2One rd⟩,
   ⟨0x29, some .e, none, none, fun rd _ _ => .fp2Ld rd⟩,
   ⟨0x2A, none, some .e, none, fun _ ra _ => .fp2St ra⟩]

/-- Opcode map, family `0x3` (R105). -/
def rowsFp6 : List OpcodeRow :=
  [⟨0x30, some .e, some .e, some .e, fun rd ra rb => .fp6Add rd ra rb⟩,
   ⟨0x31, some .e, some .e, some .e, fun rd ra rb => .fp6Sub rd ra rb⟩,
   ⟨0x32, some .e, some .e, none, fun rd ra _ => .fp6Neg rd ra⟩,
   ⟨0x33, some .e, some .e, some .e, fun rd ra rb => .fp6Mul rd ra rb⟩,
   ⟨0x34, some .e, some .e, none, fun rd ra _ => .fp6Sqr rd ra⟩,
   ⟨0x35, some .e, some .e, none, fun rd ra _ => .fp6Inv rd ra⟩,
   ⟨0x36, none, some .e, some .e, fun _ ra rb => .fp6Eq ra rb⟩,
   ⟨0x37, some .e, none, none, fun rd _ _ => .fp6Zero rd⟩,
   ⟨0x38, some .e, none, none, fun rd _ _ => .fp6One rd⟩,
   ⟨0x39, some .e, none, none, fun rd _ _ => .fp6Ld rd⟩,
   ⟨0x3A, none, some .e, none, fun _ ra _ => .fp6St ra⟩]

/-- Opcode map, family `0x4` (R105). -/
def rowsFp12 : List OpcodeRow :=
  [⟨0x40, some .e, some .e, some .e, fun rd ra rb => .fp12Add rd ra rb⟩,
   ⟨0x41, some .e, some .e, some .e, fun rd ra rb => .fp12Sub rd ra rb⟩,
   ⟨0x42, some .e, some .e, none, fun rd ra _ => .fp12Neg rd ra⟩,
   ⟨0x43, some .e, some .e, some .e, fun rd ra rb => .fp12Mul rd ra rb⟩,
   ⟨0x44, some .e, some .e, none, fun rd ra _ => .fp12Sqr rd ra⟩,
   ⟨0x45, some .e, some .e, none, fun rd ra _ => .fp12Inv rd ra⟩,
   ⟨0x46, none, some .e, some .e, fun _ ra rb => .fp12Eq ra rb⟩,
   ⟨0x47, some .e, none, none, fun rd _ _ => .fp12Zero rd⟩,
   ⟨0x48, some .e, none, none, fun rd _ _ => .fp12One rd⟩,
   ⟨0x49, some .e, none, none, fun rd _ _ => .fp12Ld rd⟩,
   ⟨0x4A, none, some .e, none, fun _ ra _ => .fp12St ra⟩]

/-- Opcode map, family `0x5` (R105). -/
def rowsGt : List OpcodeRow :=
  [⟨0x50, some .e, some .e, some .e, fun rd ra rb => .gtMul rd ra rb⟩,
   ⟨0x51, some .e, some .e, none, fun rd ra _ => .gtInv rd ra⟩,
   ⟨0x52, some .e, some .e, some .k, fun rd ra rb => .gtExp rd ra rb⟩,
   ⟨0x53, none, some .e, some .e, fun _ ra rb => .gtEq ra rb⟩,
   ⟨0x54, none, some .e, none, fun _ ra _ => .gtIsOne ra⟩,
   ⟨0x55, some .e, none, none, fun rd _ _ => .gtOne rd⟩,
   ⟨0x56, none, some .e, none, fun _ ra _ => .gtSt ra⟩,
   ⟨0x57, some .e, some .e, none, fun rd ra _ => .gtToFp12 rd ra⟩]

/-- Opcode map, family `0x6` (R105). -/
def rowsG1 : List OpcodeRow :=
  [⟨0x60, some .p, some .p, some .p, fun rd ra rb => .g1Add rd ra rb⟩,
   ⟨0x61, some .p, some .p, none, fun rd ra _ => .g1Dbl rd ra⟩,
   ⟨0x62, some .p, some .p, none, fun rd ra _ => .g1Neg rd ra⟩,
   ⟨0x63, none, some .p, none, fun _ ra _ => .g1IsOnCurve ra⟩,
   ⟨0x64, none, some .p, none, fun _ ra _ => .g1IsId ra⟩,
   ⟨0x65, none, some .p, some .p, fun _ ra rb => .g1Eq ra rb⟩,
   ⟨0x66, none, some .p, none, fun _ ra _ => .g1ChkSub ra⟩,
   ⟨0x67, some .p, none, none, fun rd _ _ => .g1SetId rd⟩,
   ⟨0x68, some .p, none, none, fun rd _ _ => .g1Gen rd⟩,
   ⟨0x69, some .p, none, none, fun rd _ _ => .g1Ld rd⟩,
   ⟨0x6A, none, some .p, none, fun _ ra _ => .g1St ra⟩,
   ⟨0x6B, some .p, none, none, fun rd _ _ => .g1Ldc rd⟩,
   ⟨0x6C, none, some .p, none, fun _ ra _ => .g1Stc ra⟩,
   ⟨0x6D, some .p, some .p, none, fun rd ra _ => .g1Mov rd ra⟩,
   ⟨0x6E, some .p, some .p, some .k, fun rd ra rb => .g1Smul rd ra rb⟩]

/-- Opcode map, family `0x7` (R105). -/
def rowsG2 : List OpcodeRow :=
  [⟨0x70, some .q, some .q, some .q, fun rd ra rb => .g2Add rd ra rb⟩,
   ⟨0x71, some .q, some .q, none, fun rd ra _ => .g2Dbl rd ra⟩,
   ⟨0x72, some .q, some .q, none, fun rd ra _ => .g2Neg rd ra⟩,
   ⟨0x73, none, some .q, none, fun _ ra _ => .g2IsOnCurve ra⟩,
   ⟨0x74, none, some .q, none, fun _ ra _ => .g2IsId ra⟩,
   ⟨0x75, none, some .q, some .q, fun _ ra rb => .g2Eq ra rb⟩,
   ⟨0x76, none, some .q, none, fun _ ra _ => .g2ChkSub ra⟩,
   ⟨0x77, some .q, none, none, fun rd _ _ => .g2SetId rd⟩,
   ⟨0x78, some .q, none, none, fun rd _ _ => .g2Gen rd⟩,
   ⟨0x79, some .q, none, none, fun rd _ _ => .g2Ld rd⟩,
   ⟨0x7A, none, some .q, none, fun _ ra _ => .g2St ra⟩,
   ⟨0x7B, some .q, none, none, fun rd _ _ => .g2Ldc rd⟩,
   ⟨0x7C, none, some .q, none, fun _ ra _ => .g2Stc ra⟩,
   ⟨0x7D, some .q, some .q, none, fun rd ra _ => .g2Mov rd ra⟩,
   ⟨0x7E, some .q, some .q, some .k, fun rd ra rb => .g2Smul rd ra rb⟩]

/-- Opcode map, family `0x8` (R105). -/
def rowsScalar : List OpcodeRow :=
  [⟨0x80, some .k, none, none, fun rd _ _ => .kLd rd⟩,
   ⟨0x81, some .k, none, none, fun rd _ _ => .kClr rd⟩]

/-- Opcode map, family `0x9` (R105). -/
def rowsPairing : List OpcodeRow :=
  [⟨0x90, some .e, some .p, some .q, fun rd ra rb => .miller rd ra rb⟩,
   ⟨0x91, some .e, some .e, none, fun rd ra _ => .finalExp rd ra⟩,
   ⟨0x92, some .e, some .p, some .q, fun rd ra rb => .pair rd ra rb⟩,
   ⟨0x93, some .e, some .e, some .e, fun rd ra rb => .mloMul rd ra rb⟩,
   ⟨0x94, some .e, none, none, fun rd _ _ => .mloOne rd⟩]

/-- Opcode map, family `0xA` (R105). -/
def rowsPairingCheck : List OpcodeRow :=
  [⟨0xA0, none, none, none, fun _ _ _ => .pcClr⟩,
   ⟨0xA1, none, some .p, none, fun _ ra _ => .pcPush1 ra⟩,
   ⟨0xA2, none, some .q, none, fun _ ra _ => .pcPush2 ra⟩,
   ⟨0xA3, none, none, none, fun _ _ _ => .pcRun⟩]

/-- All 96 assigned opcodes (R105); every other opcode is reserved (R107). -/
def opcodeTable : List OpcodeRow :=
  rowsSystem ++ rowsFp ++ rowsFp2 ++ rowsFp6 ++ rowsFp12 ++ rowsGt ++
    rowsG1 ++ rowsG2 ++ rowsScalar ++ rowsPairing ++ rowsPairingCheck

/-- Bits 31:24 (R101). -/
def opcodeField (w : Word) : BitVec 8 := w.extractLsb' 24 8

/-- Bits 23:20 (R101). -/
def rdField (w : Word) : RegIdx := w.extractLsb' 20 4

/-- Bits 19:16 (R101). -/
def raField (w : Word) : RegIdx := w.extractLsb' 16 4

/-- Bits 15:12 (R101). -/
def rbField (w : Word) : RegIdx := w.extractLsb' 12 4

/-- Bits 11:0, reserved, must be 0 (R101). -/
def zeroField (w : Word) : BitVec 12 := w.extractLsb' 0 12

/-- A register field the format does not use is zero (R106). -/
def unusedIsZero (c : Option RegClass) (i : RegIdx) : Bool :=
  match c with
  | none => i == 0
  | some _ => true

/-- A register field the format uses is below the limit of its class (R108). -/
def usedIsInRange (c : Option RegClass) (i : RegIdx) : Bool :=
  match c with
  | none => true
  | some c => decide (i.toNat < c.limit)

/-- The row of an opcode, if it is assigned. -/
def findRow (opcode : Nat) : Option OpcodeRow :=
  opcodeTable.find? (fun row => row.opcode == opcode)

/-- The checks of R109 on a word whose opcode has the row `row`: must-be-zero fields, then index limits. -/
def decodeRow (row : OpcodeRow) (w : Word) : Except Illegal Instr :=
  if !(zeroField w == 0 && unusedIsZero row.rd (rdField w) && unusedIsZero row.ra (raField w)
      && unusedIsZero row.rb (rbField w)) then .error .nonZeroField
  else if !(usedIsInRange row.rd (rdField w) && usedIsInRange row.ra (raField w)
      && usedIsInRange row.rb (rbField w)) then .error .indexOutOfRange
  else .ok (row.build (rdField w) (raField w) (rbField w))

/-- The decoder (R109): total; the reserved opcode first, then must-be-zero fields, then index limits. -/
def decode (w : Word) : Except Illegal Instr :=
  match findRow (opcodeField w).toNat with
  | none => .error .reservedOpcode
  | some row => decodeRow row w

/-- The word with the given fields and `zero = 0`: `opcode·2^24 + rd·2^20 + ra·2^16 + rb·2^12` (R105). -/
def pack (opcode : BitVec 8) (rd ra rb : RegIdx) : Word := opcode ++ rd ++ ra ++ rb ++ 0#12

/-- The command word of a command, unused fields 0 (R102, R105). -/
def encode : Instr → Word
  | .nop => pack 0x00 0 0 0
  | .zeroize => pack 0x01 0 0 0
  | .eMov rd ra => pack 0x02 rd ra 0
  | .fpAdd rd ra rb => pack 0x10 rd ra rb
  | .fpSub rd ra rb => pack 0x11 rd ra rb
  | .fpNeg rd ra => pack 0x12 rd ra 0
  | .fpMul rd ra rb => pack 0x13 rd ra rb
  | .fpSqr rd ra => pack 0x14 rd ra 0
  | .fpInv rd ra => pack 0x15 rd ra 0
  | .fpEq ra rb => pack 0x16 0 ra rb
  | .fpZero rd => pack 0x17 rd 0 0
  | .fpOne rd => pack 0x18 rd 0 0
  | .fpLd rd => pack 0x19 rd 0 0
  | .fpSt ra => pack 0x1A 0 ra 0
  | .fp2Add rd ra rb => pack 0x20 rd ra rb
  | .fp2Sub rd ra rb => pack 0x21 rd ra rb
  | .fp2Neg rd ra => pack 0x22 rd ra 0
  | .fp2Mul rd ra rb => pack 0x23 rd ra rb
  | .fp2Sqr rd ra => pack 0x24 rd ra 0
  | .fp2Inv rd ra => pack 0x25 rd ra 0
  | .fp2Eq ra rb => pack 0x26 0 ra rb
  | .fp2Zero rd => pack 0x27 rd 0 0
  | .fp2One rd => pack 0x28 rd 0 0
  | .fp2Ld rd => pack 0x29 rd 0 0
  | .fp2St ra => pack 0x2A 0 ra 0
  | .fp6Add rd ra rb => pack 0x30 rd ra rb
  | .fp6Sub rd ra rb => pack 0x31 rd ra rb
  | .fp6Neg rd ra => pack 0x32 rd ra 0
  | .fp6Mul rd ra rb => pack 0x33 rd ra rb
  | .fp6Sqr rd ra => pack 0x34 rd ra 0
  | .fp6Inv rd ra => pack 0x35 rd ra 0
  | .fp6Eq ra rb => pack 0x36 0 ra rb
  | .fp6Zero rd => pack 0x37 rd 0 0
  | .fp6One rd => pack 0x38 rd 0 0
  | .fp6Ld rd => pack 0x39 rd 0 0
  | .fp6St ra => pack 0x3A 0 ra 0
  | .fp12Add rd ra rb => pack 0x40 rd ra rb
  | .fp12Sub rd ra rb => pack 0x41 rd ra rb
  | .fp12Neg rd ra => pack 0x42 rd ra 0
  | .fp12Mul rd ra rb => pack 0x43 rd ra rb
  | .fp12Sqr rd ra => pack 0x44 rd ra 0
  | .fp12Inv rd ra => pack 0x45 rd ra 0
  | .fp12Eq ra rb => pack 0x46 0 ra rb
  | .fp12Zero rd => pack 0x47 rd 0 0
  | .fp12One rd => pack 0x48 rd 0 0
  | .fp12Ld rd => pack 0x49 rd 0 0
  | .fp12St ra => pack 0x4A 0 ra 0
  | .gtMul rd ra rb => pack 0x50 rd ra rb
  | .gtInv rd ra => pack 0x51 rd ra 0
  | .gtExp rd ra rb => pack 0x52 rd ra rb
  | .gtEq ra rb => pack 0x53 0 ra rb
  | .gtIsOne ra => pack 0x54 0 ra 0
  | .gtOne rd => pack 0x55 rd 0 0
  | .gtSt ra => pack 0x56 0 ra 0
  | .gtToFp12 rd ra => pack 0x57 rd ra 0
  | .g1Add rd ra rb => pack 0x60 rd ra rb
  | .g1Dbl rd ra => pack 0x61 rd ra 0
  | .g1Neg rd ra => pack 0x62 rd ra 0
  | .g1IsOnCurve ra => pack 0x63 0 ra 0
  | .g1IsId ra => pack 0x64 0 ra 0
  | .g1Eq ra rb => pack 0x65 0 ra rb
  | .g1ChkSub ra => pack 0x66 0 ra 0
  | .g1SetId rd => pack 0x67 rd 0 0
  | .g1Gen rd => pack 0x68 rd 0 0
  | .g1Ld rd => pack 0x69 rd 0 0
  | .g1St ra => pack 0x6A 0 ra 0
  | .g1Ldc rd => pack 0x6B rd 0 0
  | .g1Stc ra => pack 0x6C 0 ra 0
  | .g1Mov rd ra => pack 0x6D rd ra 0
  | .g1Smul rd ra rb => pack 0x6E rd ra rb
  | .g2Add rd ra rb => pack 0x70 rd ra rb
  | .g2Dbl rd ra => pack 0x71 rd ra 0
  | .g2Neg rd ra => pack 0x72 rd ra 0
  | .g2IsOnCurve ra => pack 0x73 0 ra 0
  | .g2IsId ra => pack 0x74 0 ra 0
  | .g2Eq ra rb => pack 0x75 0 ra rb
  | .g2ChkSub ra => pack 0x76 0 ra 0
  | .g2SetId rd => pack 0x77 rd 0 0
  | .g2Gen rd => pack 0x78 rd 0 0
  | .g2Ld rd => pack 0x79 rd 0 0
  | .g2St ra => pack 0x7A 0 ra 0
  | .g2Ldc rd => pack 0x7B rd 0 0
  | .g2Stc ra => pack 0x7C 0 ra 0
  | .g2Mov rd ra => pack 0x7D rd ra 0
  | .g2Smul rd ra rb => pack 0x7E rd ra rb
  | .kLd rd => pack 0x80 rd 0 0
  | .kClr rd => pack 0x81 rd 0 0
  | .miller rd ra rb => pack 0x90 rd ra rb
  | .finalExp rd ra => pack 0x91 rd ra 0
  | .pair rd ra rb => pack 0x92 rd ra rb
  | .mloMul rd ra rb => pack 0x93 rd ra rb
  | .mloOne rd => pack 0x94 rd 0 0
  | .pcClr => pack 0xA0 0 0 0
  | .pcPush1 ra => pack 0xA1 0 ra 0
  | .pcPush2 ra => pack 0xA2 0 ra 0
  | .pcRun => pack 0xA3 0 0 0

/-- The command the decoder reads from a word of `nbits` bits, every bit above them 0. One command is one 32-bit word
written whole to `CMD` (R100), so there are no bytes to lay out. -/
def decodeTableWord (nbits w : Nat) : Option Instr :=
  match decode (BitVec.ofNat 32 (w % 2 ^ nbits)) with
  | .ok i => some i
  | .error _ => none

end Sys2Proof
end

