-- ==== Sys2Proof/Machine/State.lean ====
section
/-! DEFINITION. The state of the engine, plain data (`10_state.md` R21 lists all of it), the events of the outside world, and
the state after reset (R63). -/

namespace Sys2Proof.Machine

/-- The flags of `STATUS` (`10_state.md` R41). They are written by the engine alone; the word the host reads is
`statusWord` in `Flags.lean`. -/
structure Status where
  /-- Bit 0: from the acceptance of a command to its completion. -/
  busy : Bool
  /-- Bit 1: from a completion until the next command is accepted. -/
  done : Bool
  /-- Bit 2: the last completed command raised. -/
  err : Bool
  /-- Bit 3: an integrity failure has occurred. -/
  fatal : Bool
  /-- Bit 4: `T` is valid (R40). -/
  tv : Bool
  /-- Bit 5: the truth flag (R40). -/
  t : Bool
  deriving DecidableEq, Repr

/-- The response of a bus access (`20_memory.md` R70). -/
inductive Resp where
  | okay
  | slverr
  deriving DecidableEq, Repr

/-- The answer to a bus access: the response, and the data of a read (0 for a write, which returns none). -/
structure BusReply where
  resp : Resp
  data : Word
  deriving DecidableEq, Repr

/-- An event of the outside world, or a turn given to the engine; each is one atomic step (`60_exceptions.md` R380,
`20_memory.md` R80). Log 1. -/
inductive Input where
  /-- The host reads `bits` bits at `addr` (R70, R72). -/
  | read (addr : Addr) (bits : Nat)
  /-- The host writes `bits` bits at `addr` (R70, R72). -/
  | write (addr : Addr) (bits : Nat) (data : Word)
  /-- The engine takes its step now: the completion of the running command, if one runs (`10_state.md` R20). -/
  | engine
  /-- An integrity failure (`60_exceptions.md` R388). -/
  | integrityFailure
  /-- Hardware reset (`70_reset_and_hazards.md` R400). -/
  | hardwareReset
  deriving DecidableEq, Repr

/-- The state. Fields `inputs` and `reply` are the model's own (log 1, log 2); every other field is the spec's. -/
structure State where
  /-- `E0..E15` (R22). -/
  eregs : Vector EVal Config.NE
  /-- `P0..P7`; `none` is valid = 0 (R25, R30). -/
  pregs : Vector (Option G1Point) Config.NP
  /-- `Q0..Q7`; `none` is valid = 0 (R26, R30). -/
  qregs : Vector (Option G2Point) Config.NQ
  /-- `K0..K3`, not reduced; `none` is valid = 0 (R28, R30). -/
  kregs : Vector (Option (BitVec 256)) Config.NK
  /-- `L1` (R37). -/
  l1 : List G1Point
  /-- `L2` (R37). -/
  l2 : List G2Point
  /-- `IOBUF`, as canonical cells keyed by window address; an unlisted byte is 0 (R38, R63). See `Memory.lean`. -/
  mem : List Host.Cell
  /-- `IOLEN` (R44). -/
  iolen : BitVec 9
  /-- The flags of `STATUS` (R41). -/
  status : Status
  /-- `ERRINFO`, bits 23:0 (R42). -/
  errinfo : BitVec 24
  /-- `CMD` (R43). -/
  cmd : Word
  /-- `INTEN`, bits 3:0 (R47). -/
  inten : BitVec 4
  /-- `INTSTAT`, bits 3:0 (R47). -/
  intstat : BitVec 4
  /-- MODEL: the events of the outside world still to come, first one first (log 1). -/
  inputs : List Input
  /-- MODEL: the answer to the last bus access (log 2). -/
  reply : Option BusReply
  deriving DecidableEq, Repr

/-- Faults. There are none: every event of the engine has an effect the spec gives, bus errors are answers
(`60_exceptions.md` R386) and exceptions are completions (R360). Safe: nothing stops. Log 6. -/
inductive Fault
  deriving DecidableEq, Repr

/-- Refusals. The one constructor is the host interface's, for an instruction without a meaning; every command has one, so
nothing raises it. Safe. Log 6. -/
inductive Refusal where
  /-- No meaning for this mnemonic yet; raised by no arm. Safe. -/
  | notModelled (mnemonic : String)
  deriving DecidableEq, Repr

/-- What a step answers. -/
abbrev Result := Host.Outcome State Fault Refusal

/-- `STATUS` after reset (R63). -/
def statusReset : Status :=
  { busy := false, done := false, err := false, fatal := false, tv := false, t := false }

/-- The machine right after reset (R63, `70_reset_and_hazards.md` R401): every value is the spec's; `inputs` and `reply` are
the model's and empty. -/
def State.reset : State where
  eregs := Vector.replicate Config.NE .empty
  pregs := Vector.replicate Config.NP none
  qregs := Vector.replicate Config.NQ none
  kregs := Vector.replicate Config.NK none
  l1 := []
  l2 := []
  mem := []
  iolen := 0
  status := statusReset
  errinfo := 0
  cmd := 0
  inten := 0
  intstat := 0
  inputs := []
  reply := none

end Sys2Proof.Machine
end

