-- ==== Sys2Proof/Machine/Memory.lean ====
section
/-! DEFINITION. `IOBUF` as memory: cells keyed by window address, in one canonical form, addresses strictly rising and no
entry 0, so that equal contents are equal lists (`10_state.md` R38, R59; `20_memory.md` R71). -/

namespace Sys2Proof.Machine

/-- The window address of `IOBUF[0]` (`20_memory.md` R71). -/
def iobufBase : Nat := 0x200

/-- The first window address after `IOBUF` (R71). -/
def iobufEnd : Nat := 0x380

/-- The byte at an address; an unlisted address reads 0, the reset value (`10_state.md` R63). -/
def memRead : List Host.Cell → Nat → Byte
  | [], _ => 0
  | (k, b) :: rest, a => if k = a then b else memRead rest a

/-- Write one byte, keeping the canonical form: writing 0 removes the entry. -/
def memWrite : List Host.Cell → Nat → Byte → List Host.Cell
  | [], a, b => if b = 0 then [] else [(a, b)]
  | (k, c) :: rest, a, b =>
    if a < k then (if b = 0 then (k, c) :: rest else (a, b) :: (k, c) :: rest)
    else if a = k then (if b = 0 then rest else (a, b) :: rest)
    else (k, c) :: memWrite rest a b

/-- The `n` bytes from an address (`MemRead` of `00_scope.md`). -/
def memReadBytes (m : List Host.Cell) (a : Nat) : Nat → List Byte
  | 0 => []
  | n + 1 => memRead m a :: memReadBytes m (a + 1) n

/-- Write a byte string from an address (`MemWrite` of `00_scope.md`). -/
def memWriteBytes (m : List Host.Cell) (a : Nat) : List Byte → List Host.Cell
  | [] => m
  | b :: bs => memWriteBytes (memWrite m a b) (a + 1) bs

/-- Canonical from address `lo`: strictly rising, inside `IOBUF`, no entry 0. -/
def memWfFrom (lo : Nat) : List Host.Cell → Bool
  | [] => true
  | (k, b) :: rest => decide (lo ≤ k) && decide (k < iobufEnd) && decide (b ≠ 0) && memWfFrom (k + 1) rest

/-- The canonical form of `IOBUF`. -/
def memWf (m : List Host.Cell) : Bool := memWfFrom iobufBase m

end Sys2Proof.Machine
end

