-- ==== Sys2Proof/Machine/Flags.lean ====
section
/-! DEFINITION. Flags and status: the `STATUS` word, the error codes and the `ERRINFO` word, the bits of `INTSTAT`, the
interrupt line, and the observation words (`10_state.md` R40 to R48, `60_exceptions.md` R361, R376, R377). -/

namespace Sys2Proof.Machine

/-- A sum of bits, the first one bit 0. -/
def packBits : List Bool → Nat
  | [] => 0
  | b :: bs => b.toNat + 2 * packBits bs

/-- A sum of 4-bit digits, the first one bits 3:0. -/
def packNibbles : List Nat → Nat
  | [] => 0
  | d :: ds => d + 16 * packNibbles ds

/-- The `STATUS` word the host reads; bits 31:6 are 0 (`10_state.md` R41). -/
def statusWord (s : Status) : Word :=
  BitVec.ofNat 32 (packBits [s.busy, s.done, s.err, s.fatal, s.tv, s.t])

/-- `CODE` (`60_exceptions.md` R361). -/
def Exn.code : Exn → Nat
  | .invalidLength => 0x01
  | .nonCanonical => 0x01
  | .notOnCurve => 0x02
  | .notInSubgroup => 0x03
  | .degenerateStep _ => 0x03
  | .lengthMismatch => 0x04
  | .divisionByZero => 0x05
  | .reservedOpcode => 0x10
  | .nonZeroField => 0x10
  | .indexOutOfRange => 0x10
  | .emptyOperand _ => 0x11
  | .typeMismatch _ => 0x12
  | .list1Full => 0x13
  | .list2Full => 0x13

/-- The operand number an exception reports (R366). -/
def Operand.sub : Operand → Nat
  | .ra => 1
  | .rb => 2

/-- `SUB` (R361). -/
def Exn.sub : Exn → Nat
  | .invalidLength => 1
  | .nonCanonical => 2
  | .notOnCurve => 0
  | .notInSubgroup => 1
  | .degenerateStep _ => 2
  | .lengthMismatch => 0
  | .divisionByZero => 0
  | .reservedOpcode => 1
  | .nonZeroField => 2
  | .indexOutOfRange => 3
  | .emptyOperand w => w.sub
  | .typeMismatch w => w.sub
  | .list1Full => 1
  | .list2Full => 2

/-- `IDX`: the pair index of a degenerate step, else 0 (R361). -/
def Exn.idx : Exn → Nat
  | .degenerateStep i => i
  | .invalidLength | .nonCanonical | .notOnCurve | .notInSubgroup | .lengthMismatch | .divisionByZero
  | .reservedOpcode | .nonZeroField | .indexOutOfRange | .emptyOperand _ | .typeMismatch _ | .list1Full
  | .list2Full => 0

/-- `ERRINFO <- code + 256·sub + 65536·idx` (`60_exceptions.md` R372). -/
def Exn.errinfo (x : Exn) : BitVec 24 := BitVec.ofNat 24 (x.code + 256 * x.sub + 65536 * x.idx)

/-- `ERRINFO` of the fatal condition (R388). -/
def fatalErrinfo : BitVec 24 := 0x0000FF

/-- The exception of an illegal word (`60_exceptions.md` R369). -/
def illegalExn : Illegal → Exn
  | .reservedOpcode => .reservedOpcode
  | .nonZeroField => .nonZeroField
  | .indexOutOfRange => .indexOutOfRange

/-- `INTSTAT.DONE` (`60_exceptions.md` R376). -/
def intDone : BitVec 4 := 1
/-- `INTSTAT.ERR` (R376). -/
def intErr : BitVec 4 := 2
/-- `INTSTAT.FATAL` (R376). -/
def intFatal : BitVec 4 := 4
/-- `INTSTAT.OVR` (R376). -/
def intOvr : BitVec 4 := 8

/-- The interrupt line, a level (`60_exceptions.md` R377). -/
def irq (s : State) : Bool := decide (s.intstat &&& s.inten ≠ 0)

/-- The tag code of an `E` register (`10_state.md` R23). -/
def EVal.tag : EVal → Nat
  | .empty => 0
  | .fp _ => 1
  | .fp2 _ => 2
  | .fp6 _ => 3
  | .fp12 _ => 4
  | .gt _ => 5
  | .mlo _ => 6

/-- `LISTCNT` (`10_state.md` R48). -/
def listcntWord (s : State) : Word := BitVec.ofNat 32 (s.l1.length % 16 + 256 * (s.l2.length % 16))

/-- `ETAG0`: the tags of `E0..E7` (R48). -/
def etag0Word (s : State) : Word := BitVec.ofNat 32 (packNibbles ((s.eregs.toList.take 8).map EVal.tag))

/-- `ETAG1`: the tags of `E8..E15` (R48). -/
def etag1Word (s : State) : Word := BitVec.ofNat 32 (packNibbles ((s.eregs.toList.drop 8).map EVal.tag))

/-- `VTAG`: the valid bits of `P` at bit 0, `Q` at bit 8, `K` at bit 16 (R48). -/
def vtagWord (s : State) : Word :=
  BitVec.ofNat 32
    (packBits (s.pregs.toList.map Option.isSome ++ s.qregs.toList.map Option.isSome
      ++ s.kregs.toList.map Option.isSome))

end Sys2Proof.Machine
end

