-- ==== Sys2Proof/Machine/Ops.lean ====
section
/-! DEFINITION. The named operations over the state: register and list writes, the buffer primitives, erasure, and the three
transitions every command goes through: acceptance, normal completion, and taking an exception. -/

namespace Sys2Proof.Machine

/-! ## Registers, lists, flags -/

/-- `E[i] <- v`. -/
def State.setE (s : State) (i : Fin Config.NE) (v : EVal) : State := { s with eregs := s.eregs.set i v }

/-- `P[i] <- A`; the register becomes valid (`00_scope.md`, notation). -/
def State.setP (s : State) (i : Fin Config.NP) (A : G1Point) : State := { s with pregs := s.pregs.set i (some A) }

/-- `Q[i] <- A`; the register becomes valid. -/
def State.setQ (s : State) (i : Fin Config.NQ) (A : G2Point) : State := { s with qregs := s.qregs.set i (some A) }

/-- `K[i] <- k`, or `K[i] <- EMPTY` for `none`. -/
def State.setK (s : State) (i : Fin Config.NK) (k : Option (BitVec 256)) : State := { s with kregs := s.kregs.set i k }

/-- `L1 <- l1; L2 <- l2`. -/
def State.setLists (s : State) (l1 : List G1Point) (l2 : List G2Point) : State := { s with l1 := l1, l2 := l2 }

/-- `T <- b`, that is `STATUS.T <- b; STATUS.TV <- 1` (`10_state.md` R40). -/
def State.setT (s : State) (b : Bool) : State := { s with status := { s.status with tv := true, t := b } }

/-- Contents and length of the buffer. -/
def State.setIo (s : State) (mem : List Host.Cell) (iolen : BitVec 9) : State := { s with mem := mem, iolen := iolen }

/-- Set bits of `INTSTAT` (sticky, `60_exceptions.md` R378). -/
def State.setInt (s : State) (bits : BitVec 4) : State := { s with intstat := s.intstat ||| bits }

/-- The answer of a bus access. -/
def State.setReply (s : State) (r : BusReply) : State := { s with reply := some r }

/-- The events still to come. -/
def State.setInputs (s : State) (evs : List Input) : State := { s with inputs := evs }

/-! ## The buffer primitives (`20_memory.md` R77, R78) -/

/-- `IOBUF[k]`. -/
def State.iobuf (s : State) (k : Nat) : Byte := memRead s.mem (iobufBase + k)

/-- `LoadBytes(n)` (R77): the length check, then the bytes; it changes nothing. -/
def loadBytes (s : State) (n : Nat) : Except Exn (List Byte) :=
  if s.iolen.toNat ≠ n then .error .invalidLength else .ok (memReadBytes s.mem iobufBase n)

/-- The buffer after `StoreBytes(B)`: `B`, then zeros to the end (R78). -/
def storedMem (m : List Host.Cell) (B : List Byte) : List Host.Cell :=
  memWriteBytes (memWriteBytes m iobufBase B) (iobufBase + B.length) (zeros (Config.IOBUF_BYTES - B.length))

/-- `StoreBytes(B)` (R78). -/
def storeBytes (s : State) (B : List Byte) : State := s.setIo (storedMem s.mem B) (BitVec.ofNat 9 B.length)

/-! ## Erasure -/

/-- Every register EMPTY, both lists empty, the buffer and its length 0: the effect of `ZEROIZE` (`47_system.md` R351), part
of the fatal condition (`60_exceptions.md` R388). -/
def State.erase (s : State) : State :=
  { s with
    eregs := Vector.replicate Config.NE .empty
    pregs := Vector.replicate Config.NP none
    qregs := Vector.replicate Config.NQ none
    kregs := Vector.replicate Config.NK none
    l1 := []
    l2 := []
    mem := []
    iolen := 0 }

/-! ## Acceptance, completion, exception -/

/-- The acceptance of a command word (`20_memory.md` R79): it clears the error latch and the flags of the command before;
this is the only way out of an error completion (`60_exceptions.md` R381: there is no return command). -/
def State.accept (s : State) (w : Word) : State :=
  { s with
    cmd := w
    status := { s.status with busy := true, done := false, err := false, tv := false, t := false }
    errinfo := 0 }

/-- Normal completion (`30_encoding.md` R109, last line). -/
def State.completed (s : State) : State :=
  { s with
    status := { s.status with busy := false, done := true }
    intstat := s.intstat ||| intDone }

/-- Taking an exception: the error completion (`60_exceptions.md` R372). Nothing else changes. -/
def State.raised (s : State) (x : Exn) : State :=
  { s with
    status := { s.status with busy := false, done := true, err := true }
    errinfo := x.errinfo
    intstat := s.intstat ||| intDone ||| intErr }

/-- The end of a command that started in `s` (R109): its effect and the normal completion, or the error completion of the
state it started in. -/
def State.finish (s : State) (effect : Except Exn State) : Result :=
  match effect with
  | .ok t => .next t.completed
  | .error x => .next (s.raised x)

/-- The integrity failure (`60_exceptions.md` R388); a second one changes nothing (R382). -/
def State.integrityFail (s : State) : State :=
  if s.status.fatal then s
  else
    { s.erase with
      status := { busy := false, done := true, err := true, fatal := true, tv := false, t := false }
      errinfo := fatalErrinfo
      intstat := s.intstat ||| intDone ||| intErr ||| intFatal }

/-- Hardware reset (`70_reset_and_hazards.md` R401): the state after reset; the events still to come are the world's, not the
engine's, and stay. -/
def State.hardReset (s : State) : State := { State.reset with inputs := s.inputs }

end Sys2Proof.Machine
end

