-- ==== Sys2Proof/Machine/Bus.lean ====
section
/-! DEFINITION. The slave port: the register map (`10_state.md` R41 to R49), reads and writes of any width and address, the
accesses blocked while busy and dropped while fatal (`20_memory.md` R70 to R82). -/

namespace Sys2Proof.Machine

/-- The control registers (`10_state.md` R49). -/
inductive CtlReg where
  | id
  | version
  | cap
  | ctrl
  | status
  | errinfo
  | cmd
  | iolen
  | inten
  | intstat
  | listcnt
  | etag0
  | etag1
  | vtag
  deriving DecidableEq, Repr

/-- What an address of the window selects (R49, `20_memory.md` R71). -/
inductive Target where
  | ctl (r : CtlReg)
  /-- The `IOBUF` word whose first byte is `IOBUF[offset]`. -/
  | iobuf (offset : Nat)
  | unmapped
  deriving DecidableEq, Repr

/-- The register map, for an address that is a multiple of 4 (R49). -/
def targetOf (addr : Addr) : Target :=
  match addr.toNat with
  | 0x000 => .ctl .id
  | 0x004 => .ctl .version
  | 0x008 => .ctl .cap
  | 0x00C => .ctl .ctrl
  | 0x010 => .ctl .status
  | 0x014 => .ctl .errinfo
  | 0x018 => .ctl .cmd
  | 0x01C => .ctl .iolen
  | 0x020 => .ctl .inten
  | 0x024 => .ctl .intstat
  | 0x028 => .ctl .listcnt
  | 0x02C => .ctl .etag0
  | 0x030 => .ctl .etag1
  | 0x034 => .ctl .vtag
  | a => if iobufBase ≤ a ∧ a < iobufEnd then .iobuf (a - iobufBase) else .unmapped

/-- An aligned 32-bit access; every other one answers `SLVERR` (`20_memory.md` R72). -/
def accessOk (addr : Addr) (bits : Nat) : Bool := decide (bits = 32) && decide (addr.toNat % 4 = 0)

/-- `OKAY` with data. -/
def okay (data : Word) : BusReply := ⟨.okay, data⟩

/-- `SLVERR`, data 0. -/
def slverr : BusReply := ⟨.slverr, 0⟩

/-- `ID` (`10_state.md` R45). -/
def idWord : Word := 0x424E5045

/-- `VERSION` (R45). -/
def versionWord : Word := 0x00010000

/-- `CAP`: the sizes, five bits each (R45). -/
def capWord : Word :=
  BitVec.ofNat 32 (Config.NE + 2 ^ 5 * Config.NP + 2 ^ 10 * Config.NQ + 2 ^ 15 * Config.NK + 2 ^ 20 * Config.NPAIR)

/-- The word a control register reads as; bits it does not list are 0 (R41 to R48). -/
def ctlWord (s : State) : CtlReg → Word
  | .id => idWord
  | .version => versionWord
  | .cap => capWord
  | .ctrl => 0
  | .status => statusWord s.status
  | .errinfo => s.errinfo.zeroExtend 32
  | .cmd => s.cmd
  | .iolen => s.iolen.zeroExtend 32
  | .inten => s.inten.zeroExtend 32
  | .intstat => s.intstat.zeroExtend 32
  | .listcnt => listcntWord s
  | .etag0 => etag0Word s
  | .etag1 => etag1Word s
  | .vtag => vtagWord s

/-- The `IOBUF` word at an offset: lane `i` carries `IOBUF[offset + i]` (`20_memory.md` R73). -/
def iobufWord (s : State) (offset : Nat) : Word :=
  s.iobuf (offset + 3) ++ s.iobuf (offset + 2) ++ s.iobuf (offset + 1) ++ s.iobuf offset

/-- `IOBUF[offset + i] <- data[8i+7 : 8i]` for `i = 0..3` (R79). -/
def setIobufWord (s : State) (offset : Nat) (data : Word) : State :=
  s.setIo
    (memWriteBytes s.mem (iobufBase + offset)
      [data.extractLsb' 0 8, data.extractLsb' 8 8, data.extractLsb' 16 8, data.extractLsb' 24 8])
    s.iolen

/-- The registers a read of which is blocked while busy (R81). -/
def readBlocked : CtlReg → Bool
  | .iolen | .listcnt | .etag0 | .etag1 | .vtag => true
  | .id | .version | .cap | .ctrl | .status | .errinfo | .cmd | .inten | .intstat => false

/-- Accesses are blocked while busy (R81). `FATAL = 1` goes with `BUSY = 0`, and sets no `OVR` (R82, `60_exceptions.md`
R379). -/
def blocking (s : State) : Bool := s.status.busy && !s.status.fatal

/-- A blocked access: no effect but `INTSTAT.OVR`, answer `OKAY` with data 0 (R81). -/
def blockedAccess (s : State) : State × BusReply := (s.setInt intOvr, okay 0)

/-- A read access: the state after it and the answer (R70, R72, R75, R81, R82). -/
def busRead (s : State) (addr : Addr) (bits : Nat) : State × BusReply :=
  if accessOk addr bits then
    match targetOf addr with
    | .unmapped => (s, slverr)
    | .iobuf offset => if blocking s then blockedAccess s else (s, okay (iobufWord s offset))
    | .ctl r => if blocking s && readBlocked r then blockedAccess s else (s, okay (ctlWord s r))
  else (s, slverr)

/-- A write that acts only while idle and not fatal: dropped while fatal, blocked while busy (R79, R81, R82). -/
def guardedWrite (s : State) (effect : State) : State × BusReply :=
  if s.status.fatal then (s, okay 0)
  else if s.status.busy then blockedAccess s
  else (effect, okay 0)

/-- Soft reset: the effect of hardware reset (`70_reset_and_hazards.md` R402). -/
def softReset (s : State) (data : Word) : State := if data.getLsbD 0 then s.hardReset else s

/-- A write of a control register (R76, R79). A write to a read-only register while busy changes nothing, `INTSTAT.OVR`
included, as R76, R81 and `60_exceptions.md` R379 list it, although `92_eei_decisions.md` D10 says that every access it does not
list is blocked: DESIGN CHOICE, unsafe, log 11. -/
def ctlWrite (s : State) (r : CtlReg) (data : Word) : State × BusReply :=
  match r with
  | .cmd => guardedWrite s (s.accept data)
  | .ctrl => guardedWrite s (softReset s data)
  | .iolen => guardedWrite s { s with iolen := data.truncate 9 }
  | .inten => ({ s with inten := data.truncate 4 }, okay 0)
  | .intstat => ({ s with intstat := s.intstat &&& ~~~(data.truncate 4) }, okay 0)
  | .id | .version | .cap | .status | .errinfo | .listcnt | .etag0 | .etag1 | .vtag => (s, okay 0)

/-- A write access: the state after it and the answer (R70, R72, R75, R76, R79, R81, R82). -/
def busWrite (s : State) (addr : Addr) (bits : Nat) (data : Word) : State × BusReply :=
  if accessOk addr bits then
    match targetOf addr with
    | .unmapped => (s, slverr)
    | .iobuf offset => guardedWrite s (setIobufWord s offset data)
    | .ctl r => ctlWrite s r data
  else (s, slverr)

/-- The state after an access, its answer recorded (log 2). -/
def answered (r : State × BusReply) : State := r.1.setReply r.2

end Sys2Proof.Machine
end

