-- ==== Sys2Proof/Machine/Operands.lean ====
section
/-! DEFINITION. Operands: register indices against the limit of their class (`30_encoding.md` R103, R108), the typed fetches
`getE, getP, getQ, getK` (`00_scope.md`, notation; `60_exceptions.md` R366, R367), and the operand shapes the commands
share. -/

namespace Sys2Proof.Machine

/-! ## Indices -/

/-- Every 4-bit index is an `E` register (R103). -/
def eIdx (i : EIdx) : Fin Config.NE := ⟨i.toNat, i.isLt⟩

/-- A `P` index; at or above 8 the word is illegal (R108). -/
def pIdx (i : PIdx) : Except Exn (Fin Config.NP) :=
  if h : i.toNat < Config.NP then .ok ⟨i.toNat, h⟩ else .error .indexOutOfRange

/-- A `Q` index; at or above 8 the word is illegal (R108). -/
def qIdx (i : QIdx) : Except Exn (Fin Config.NQ) :=
  if h : i.toNat < Config.NQ then .ok ⟨i.toNat, h⟩ else .error .indexOutOfRange

/-- A `K` index; at or above 4 the word is illegal (R108). -/
def kIdx (i : KIdx) : Except Exn (Fin Config.NK) :=
  if h : i.toNat < Config.NK then .ok ⟨i.toNat, h⟩ else .error .indexOutOfRange

/-! ## Accepted tags (`60_exceptions.md` R367) -/

def EVal.asFp : EVal → Option Fp
  | .fp a => some a
  | .empty | .fp2 _ | .fp6 _ | .fp12 _ | .gt _ | .mlo _ => none

def EVal.asFp2 : EVal → Option Fp2
  | .fp2 a => some a
  | .empty | .fp _ | .fp6 _ | .fp12 _ | .gt _ | .mlo _ => none

def EVal.asFp6 : EVal → Option Fp6
  | .fp6 a => some a
  | .empty | .fp _ | .fp2 _ | .fp12 _ | .gt _ | .mlo _ => none

def EVal.asFp12 : EVal → Option Fp12
  | .fp12 a => some a
  | .empty | .fp _ | .fp2 _ | .fp6 _ | .gt _ | .mlo _ => none

def EVal.asGt : EVal → Option Fp12
  | .gt a => some a
  | .empty | .fp _ | .fp2 _ | .fp6 _ | .fp12 _ | .mlo _ => none

def EVal.asMlo : EVal → Option Fp12
  | .mlo a => some a
  | .empty | .fp _ | .fp2 _ | .fp6 _ | .fp12 _ | .gt _ => none

/-- Tags `MLO` and `FP12`, the sources of `FINALEXP` (`44_pairing.md` R285). -/
def EVal.asMloOrFp12 : EVal → Option Fp12
  | .mlo a => some a
  | .fp12 a => some a
  | .empty | .fp _ | .fp2 _ | .fp6 _ | .gt _ => none

/-! ## Typed fetches -/

/-- `getE(i, tags, w)`: the value if the tag is accepted; `EmptyOperand` if EMPTY, else `TypeMismatch`. -/
def getE {α : Type} (accepts : EVal → Option α) (s : State) (i : EIdx) (w : Operand) : Except Exn α :=
  if s.eregs[eIdx i] = .empty then .error (.emptyOperand w)
  else
    match accepts s.eregs[eIdx i] with
    | some a => .ok a
    | none => .error (.typeMismatch w)

/-- A register of a one-type file: the value if valid, else `EmptyOperand`. -/
def getValid {α : Type} (r : Option α) (w : Operand) : Except Exn α :=
  match r with
  | some a => .ok a
  | none => .error (.emptyOperand w)

/-- `getP(i, w)`. -/
def getP (s : State) (i : Fin Config.NP) (w : Operand) : Except Exn G1Point := getValid s.pregs[i] w

/-- `getQ(i, w)`. -/
def getQ (s : State) (i : Fin Config.NQ) (w : Operand) : Except Exn G2Point := getValid s.qregs[i] w

/-- `getK(i, w)`. -/
def getK (s : State) (i : Fin Config.NK) (w : Operand) : Except Exn (BitVec 256) := getValid s.kregs[i] w

/-! ## Shapes over the `E` file -/

section
variable {α : Type}

/-- `a <- getE(ra); b <- getE(rb); E[rd] <- (tag, f a b)`. -/
def eBinary (accepts : EVal → Option α) (tag : α → EVal) (f : α → α → α) (rd ra rb : EIdx) (s : State) : Result :=
  s.finish do
    let a ← getE accepts s ra .ra
    let b ← getE accepts s rb .rb
    return s.setE (eIdx rd) (tag (f a b))

/-- `a <- getE(ra); E[rd] <- (tag, f a)`. -/
def eUnary (accepts : EVal → Option α) (tag : α → EVal) (f : α → α) (rd ra : EIdx) (s : State) : Result :=
  s.finish do
    let a ← getE accepts s ra .ra
    return s.setE (eIdx rd) (tag (f a))

/-- `a <- getE(ra); if a = zero then raise DivisionByZero; E[rd] <- (tag, f a)`. -/
def eNonZero [DecidableEq α] (accepts : EVal → Option α) (tag : α → EVal) (zero : α) (f : α → α) (rd ra : EIdx)
    (s : State) : Result :=
  s.finish do
    let a ← getE accepts s ra .ra
    if a = zero then .error .divisionByZero
    else return s.setE (eIdx rd) (tag (f a))

/-- `a <- getE(ra); b <- getE(rb); T <- test a b`. -/
def eTest2 (accepts : EVal → Option α) (test : α → α → Bool) (ra rb : EIdx) (s : State) : Result :=
  s.finish do
    let a ← getE accepts s ra .ra
    let b ← getE accepts s rb .rb
    return s.setT (test a b)

/-- `a <- getE(ra); T <- test a`. -/
def eTest (accepts : EVal → Option α) (test : α → Bool) (ra : EIdx) (s : State) : Result :=
  s.finish do
    let a ← getE accepts s ra .ra
    return s.setT (test a)

/-- `E[rd] <- v`. -/
def eConst (v : EVal) (rd : EIdx) (s : State) : Result :=
  s.finish (.ok (s.setE (eIdx rd) v))

/-- `B <- LoadBytes(n); E[rd] <- (tag, Dec(B))`. -/
def eLoad (n : Nat) (dec : List Byte → Except Exn α) (tag : α → EVal) (rd : EIdx) (s : State) : Result :=
  s.finish do
    let B ← loadBytes s n
    let a ← dec B
    return s.setE (eIdx rd) (tag a)

/-- `a <- getE(ra); StoreBytes(Enc(a))`. -/
def eStore (accepts : EVal → Option α) (enc : α → List Byte) (ra : EIdx) (s : State) : Result :=
  s.finish do
    let a ← getE accepts s ra .ra
    return storeBytes s (enc a)

end

/-! ## Shapes over the point files: indices of all fields first, then the operands -/

/-- `A <- getP(ra); B <- getP(rb); P[rd] <- f A B`. -/
def pBinary (f : G1Point → G1Point → G1Point) (rd ra rb : PIdx) (s : State) : Result :=
  s.finish do
    let d ← pIdx rd
    let a ← pIdx ra
    let b ← pIdx rb
    let A ← getP s a .ra
    let B ← getP s b .rb
    return s.setP d (f A B)

/-- `A <- getP(ra); P[rd] <- f A`. -/
def pUnary (f : G1Point → G1Point) (rd ra : PIdx) (s : State) : Result :=
  s.finish do
    let d ← pIdx rd
    let a ← pIdx ra
    let A ← getP s a .ra
    return s.setP d (f A)

/-- `A <- getP(ra); B <- getP(rb); T <- test A B`. -/
def pTest2 (test : G1Point → G1Point → Bool) (ra rb : PIdx) (s : State) : Result :=
  s.finish do
    let a ← pIdx ra
    let b ← pIdx rb
    let A ← getP s a .ra
    let B ← getP s b .rb
    return s.setT (test A B)

/-- `A <- getP(ra); T <- test A`. -/
def pTest (test : G1Point → Bool) (ra : PIdx) (s : State) : Result :=
  s.finish do
    let a ← pIdx ra
    let A ← getP s a .ra
    return s.setT (test A)

/-- `A <- getP(ra); if not ok(A) then raise x`. -/
def pRequire (ok : G1Point → Bool) (x : Exn) (ra : PIdx) (s : State) : Result :=
  s.finish do
    let a ← pIdx ra
    let A ← getP s a .ra
    if ok A then return s else .error x

/-- `P[rd] <- A`. -/
def pConst (A : G1Point) (rd : PIdx) (s : State) : Result :=
  s.finish do
    let d ← pIdx rd
    return s.setP d A

/-- `B <- LoadBytes(n); P[rd] <- Dec(B)`. -/
def pLoad (n : Nat) (dec : List Byte → Except Exn G1Point) (rd : PIdx) (s : State) : Result :=
  s.finish do
    let d ← pIdx rd
    let B ← loadBytes s n
    let A ← dec B
    return s.setP d A

/-- `A <- getP(ra); StoreBytes(Enc(A))`. -/
def pStore (enc : G1Point → List Byte) (ra : PIdx) (s : State) : Result :=
  s.finish do
    let a ← pIdx ra
    let A ← getP s a .ra
    return storeBytes s (enc A)

/-- `A <- getQ(ra); B <- getQ(rb); Q[rd] <- f A B`. -/
def qBinary (f : G2Point → G2Point → G2Point) (rd ra rb : QIdx) (s : State) : Result :=
  s.finish do
    let d ← qIdx rd
    let a ← qIdx ra
    let b ← qIdx rb
    let A ← getQ s a .ra
    let B ← getQ s b .rb
    return s.setQ d (f A B)

/-- `A <- getQ(ra); Q[rd] <- f A`. -/
def qUnary (f : G2Point → G2Point) (rd ra : QIdx) (s : State) : Result :=
  s.finish do
    let d ← qIdx rd
    let a ← qIdx ra
    let A ← getQ s a .ra
    return s.setQ d (f A)

/-- `A <- getQ(ra); B <- getQ(rb); T <- test A B`. -/
def qTest2 (test : G2Point → G2Point → Bool) (ra rb : QIdx) (s : State) : Result :=
  s.finish do
    let a ← qIdx ra
    let b ← qIdx rb
    let A ← getQ s a .ra
    let B ← getQ s b .rb
    return s.setT (test A B)

/-- `A <- getQ(ra); T <- test A`. -/
def qTest (test : G2Point → Bool) (ra : QIdx) (s : State) : Result :=
  s.finish do
    let a ← qIdx ra
    let A ← getQ s a .ra
    return s.setT (test A)

/-- `A <- getQ(ra); if not ok(A) then raise x`. -/
def qRequire (ok : G2Point → Bool) (x : Exn) (ra : QIdx) (s : State) : Result :=
  s.finish do
    let a ← qIdx ra
    let A ← getQ s a .ra
    if ok A then return s else .error x

/-- `Q[rd] <- A`. -/
def qConst (A : G2Point) (rd : QIdx) (s : State) : Result :=
  s.finish do
    let d ← qIdx rd
    return s.setQ d A

/-- `B <- LoadBytes(n); Q[rd] <- Dec(B)`. -/
def qLoad (n : Nat) (dec : List Byte → Except Exn G2Point) (rd : QIdx) (s : State) : Result :=
  s.finish do
    let d ← qIdx rd
    let B ← loadBytes s n
    let A ← dec B
    return s.setQ d A

/-- `A <- getQ(ra); StoreBytes(Enc(A))`. -/
def qStore (enc : G2Point → List Byte) (ra : QIdx) (s : State) : Result :=
  s.finish do
    let a ← qIdx ra
    let A ← getQ s a .ra
    return storeBytes s (enc A)

end Sys2Proof.Machine
end

