-- ==== Sys2Proof/Machine/Fp.lean ====
section
/-! DEFINITION. The `FP.*` commands (`40_fp_tower.md`, `46_point_encoding.md`: R131 to R139, R323, R324). Sources must carry
the tag `FP` (R129). -/

namespace Sys2Proof.Machine

/-- `FP.ADD` (R131): `a + b`. -/
def execFpAdd (rd ra rb : EIdx) (s : State) : Result := eBinary EVal.asFp EVal.fp fpAdd rd ra rb s

/-- `FP.SUB` (R132): `a - b`. -/
def execFpSub (rd ra rb : EIdx) (s : State) : Result := eBinary EVal.asFp EVal.fp fpSub rd ra rb s

/-- `FP.NEG` (R133): `-a`. -/
def execFpNeg (rd ra : EIdx) (s : State) : Result := eUnary EVal.asFp EVal.fp fpNeg rd ra s

/-- `FP.MUL` (R134): `a · b`. -/
def execFpMul (rd ra rb : EIdx) (s : State) : Result := eBinary EVal.asFp EVal.fp fpMul rd ra rb s

/-- `FP.SQR` (R135): `a · a`. -/
def execFpSqr (rd ra : EIdx) (s : State) : Result := eUnary EVal.asFp EVal.fp fpSqr rd ra s

/-- `FP.INV` (R136): the inverse; zero raises `DivisionByZero` (R125). -/
def execFpInv (rd ra : EIdx) (s : State) : Result := eNonZero EVal.asFp EVal.fp fpZero fpInv rd ra s

/-- `FP.EQ` (R137): `T <- (a = b)`. -/
def execFpEq (ra rb : EIdx) (s : State) : Result := eTest2 EVal.asFp fpEq ra rb s

/-- `FP.ZERO` (R138): the additive identity. -/
def execFpZero (rd : EIdx) (s : State) : Result := eConst (EVal.fp fpZero) rd s

/-- `FP.ONE` (R139): the multiplicative identity. -/
def execFpOne (rd : EIdx) (s : State) : Result := eConst (EVal.fp fpOne) rd s

/-- `FP.LD` (R323): load 32 bytes. -/
def execFpLd (rd : EIdx) (s : State) : Result := eLoad 32 decFp EVal.fp rd s

/-- `FP.ST` (R324): store 32 bytes. -/
def execFpSt (ra : EIdx) (s : State) : Result := eStore EVal.asFp encFp ra s

end Sys2Proof.Machine
end

