-- ==== Sys2Proof/Machine/Fp12.lean ====
section
/-! DEFINITION. The `FP12.*` commands (`40_fp_tower.md`, `46_point_encoding.md`: R160 to R169, R329, R330). Sources must carry
the tag `FP12` (R129). -/

namespace Sys2Proof.Machine

/-- `FP12.ADD` (R161): `a + b`. -/
def execFp12Add (rd ra rb : EIdx) (s : State) : Result := eBinary EVal.asFp12 EVal.fp12 fp12Add rd ra rb s

/-- `FP12.SUB` (R162): `a - b`. -/
def execFp12Sub (rd ra rb : EIdx) (s : State) : Result := eBinary EVal.asFp12 EVal.fp12 fp12Sub rd ra rb s

/-- `FP12.NEG` (R163): `-a`. -/
def execFp12Neg (rd ra : EIdx) (s : State) : Result := eUnary EVal.asFp12 EVal.fp12 fp12Neg rd ra s

/-- `FP12.MUL` (R164): `a · b`. -/
def execFp12Mul (rd ra rb : EIdx) (s : State) : Result := eBinary EVal.asFp12 EVal.fp12 fp12Mul rd ra rb s

/-- `FP12.SQR` (R165): `a · a`. -/
def execFp12Sqr (rd ra : EIdx) (s : State) : Result := eUnary EVal.asFp12 EVal.fp12 fp12Sqr rd ra s

/-- `FP12.INV` (R166): the inverse; zero raises `DivisionByZero` (R125). -/
def execFp12Inv (rd ra : EIdx) (s : State) : Result := eNonZero EVal.asFp12 EVal.fp12 fp12Zero fp12Inv rd ra s

/-- `FP12.EQ` (R167): `T <- (a = b)`. -/
def execFp12Eq (ra rb : EIdx) (s : State) : Result := eTest2 EVal.asFp12 fp12Eq ra rb s

/-- `FP12.ZERO` (R168): the additive identity. -/
def execFp12Zero (rd : EIdx) (s : State) : Result := eConst (EVal.fp12 fp12Zero) rd s

/-- `FP12.ONE` (R169): the multiplicative identity. -/
def execFp12One (rd : EIdx) (s : State) : Result := eConst (EVal.fp12 fp12One) rd s

/-- `FP12.LD` (R329): load 384 bytes. -/
def execFp12Ld (rd : EIdx) (s : State) : Result := eLoad 384 decFp12 EVal.fp12 rd s

/-- `FP12.ST` (R330): store 384 bytes. -/
def execFp12St (ra : EIdx) (s : State) : Result := eStore EVal.asFp12 encFp12 ra s

end Sys2Proof.Machine
end

