-- ==== Sys2Proof/Machine/Fp2.lean ====
section
/-! DEFINITION. The `FP2.*` commands (`40_fp_tower.md`, `46_point_encoding.md`: R140 to R149, R325, R326). Sources must carry
the tag `FP2` (R129). -/

namespace Sys2Proof.Machine

/-- `FP2.ADD` (R141): `a + b`. -/
def execFp2Add (rd ra rb : EIdx) (s : State) : Result := eBinary EVal.asFp2 EVal.fp2 fp2Add rd ra rb s

/-- `FP2.SUB` (R142): `a - b`. -/
def execFp2Sub (rd ra rb : EIdx) (s : State) : Result := eBinary EVal.asFp2 EVal.fp2 fp2Sub rd ra rb s

/-- `FP2.NEG` (R143): `-a`. -/
def execFp2Neg (rd ra : EIdx) (s : State) : Result := eUnary EVal.asFp2 EVal.fp2 fp2Neg rd ra s

/-- `FP2.MUL` (R144): `a · b`. -/
def execFp2Mul (rd ra rb : EIdx) (s : State) : Result := eBinary EVal.asFp2 EVal.fp2 fp2Mul rd ra rb s

/-- `FP2.SQR` (R145): `a · a`. -/
def execFp2Sqr (rd ra : EIdx) (s : State) : Result := eUnary EVal.asFp2 EVal.fp2 fp2Sqr rd ra s

/-- `FP2.INV` (R146): the inverse; zero raises `DivisionByZero` (R125). -/
def execFp2Inv (rd ra : EIdx) (s : State) : Result := eNonZero EVal.asFp2 EVal.fp2 fp2Zero fp2Inv rd ra s

/-- `FP2.EQ` (R147): `T <- (a = b)`. -/
def execFp2Eq (ra rb : EIdx) (s : State) : Result := eTest2 EVal.asFp2 fp2Eq ra rb s

/-- `FP2.ZERO` (R148): the additive identity. -/
def execFp2Zero (rd : EIdx) (s : State) : Result := eConst (EVal.fp2 fp2Zero) rd s

/-- `FP2.ONE` (R149): the multiplicative identity. -/
def execFp2One (rd : EIdx) (s : State) : Result := eConst (EVal.fp2 fp2One) rd s

/-- `FP2.LD` (R325): load 64 bytes. -/
def execFp2Ld (rd : EIdx) (s : State) : Result := eLoad 64 decFp2 EVal.fp2 rd s

/-- `FP2.ST` (R326): store 64 bytes. -/
def execFp2St (ra : EIdx) (s : State) : Result := eStore EVal.asFp2 encFp2 ra s

end Sys2Proof.Machine
end

