-- ==== Sys2Proof/Machine/Fp6.lean ====
section
/-! DEFINITION. The `FP6.*` commands (`40_fp_tower.md`, `46_point_encoding.md`: R150 to R159, R327, R328). Sources must carry
the tag `FP6` (R129). -/

namespace Sys2Proof.Machine

/-- `FP6.ADD` (R151): `a + b`. -/
def execFp6Add (rd ra rb : EIdx) (s : State) : Result := eBinary EVal.asFp6 EVal.fp6 fp6Add rd ra rb s

/-- `FP6.SUB` (R152): `a - b`. -/
def execFp6Sub (rd ra rb : EIdx) (s : State) : Result := eBinary EVal.asFp6 EVal.fp6 fp6Sub rd ra rb s

/-- `FP6.NEG` (R153): `-a`. -/
def execFp6Neg (rd ra : EIdx) (s : State) : Result := eUnary EVal.asFp6 EVal.fp6 fp6Neg rd ra s

/-- `FP6.MUL` (R154): `a · b`. -/
def execFp6Mul (rd ra rb : EIdx) (s : State) : Result := eBinary EVal.asFp6 EVal.fp6 fp6Mul rd ra rb s

/-- `FP6.SQR` (R155): `a · a`. -/
def execFp6Sqr (rd ra : EIdx) (s : State) : Result := eUnary EVal.asFp6 EVal.fp6 fp6Sqr rd ra s

/-- `FP6.INV` (R156): the inverse; zero raises `DivisionByZero` (R125). -/
def execFp6Inv (rd ra : EIdx) (s : State) : Result := eNonZero EVal.asFp6 EVal.fp6 fp6Zero fp6Inv rd ra s

/-- `FP6.EQ` (R157): `T <- (a = b)`. -/
def execFp6Eq (ra rb : EIdx) (s : State) : Result := eTest2 EVal.asFp6 fp6Eq ra rb s

/-- `FP6.ZERO` (R158): the additive identity. -/
def execFp6Zero (rd : EIdx) (s : State) : Result := eConst (EVal.fp6 fp6Zero) rd s

/-- `FP6.ONE` (R159): the multiplicative identity. -/
def execFp6One (rd : EIdx) (s : State) : Result := eConst (EVal.fp6 fp6One) rd s

/-- `FP6.LD` (R327): load 192 bytes. -/
def execFp6Ld (rd : EIdx) (s : State) : Result := eLoad 192 decFp6 EVal.fp6 rd s

/-- `FP6.ST` (R328): store 192 bytes. -/
def execFp6St (ra : EIdx) (s : State) : Result := eStore EVal.asFp6 encFp6 ra s

end Sys2Proof.Machine
end

