-- ==== Sys2Proof/Machine/G1.lean ====
section
/-! DEFINITION. The `G1.*` commands (`41_g1.md` R207 to R216, `46_point_encoding.md` R332 to R335, `43_scalar_mult.md` R264). -/

namespace Sys2Proof.Machine

/-- `G1.ADD` (R207): the group law. -/
def execG1Add (rd ra rb : PIdx) (s : State) : Result := pBinary add1 rd ra rb s

/-- `G1.DBL` (R208): doubling. -/
def execG1Dbl (rd ra : PIdx) (s : State) : Result := pUnary dbl1 rd ra s

/-- `G1.NEG` (R209): negation. -/
def execG1Neg (rd ra : PIdx) (s : State) : Result := pUnary neg1 rd ra s

/-- `G1.ISONCURVE` (R210): `T <- OnCurve(A)`. -/
def execG1IsOnCurve (ra : PIdx) (s : State) : Result := pTest onCurve1 ra s

/-- `G1.ISID` (R211): `T <- (A = O)`. -/
def execG1IsId (ra : PIdx) (s : State) : Result := pTest pointIsId ra s

/-- `G1.EQ` (R212): `T <- Eq(A, B)`. -/
def execG1Eq (ra rb : PIdx) (s : State) : Result := pTest2 eq1 ra rb s

/-- `G1.CHKSUB` (R213): raises `NotInSubgroup(SUB=1)` outside the order-`r` subgroup. -/
def execG1ChkSub (ra : PIdx) (s : State) : Result := pRequire inSubgroup1 .notInSubgroup ra s

/-- `G1.SETID` (R214): the identity as a value. -/
def execG1SetId (rd : PIdx) (s : State) : Result := pConst .infinity rd s

/-- `G1.GEN` (R215): the generator. -/
def execG1Gen (rd : PIdx) (s : State) : Result := pConst g1Gen rd s

/-- `G1.LD` (R332): load 64 bytes, checked to be on the curve. -/
def execG1Ld (rd : PIdx) (s : State) : Result := pLoad 64 decG1 rd s

/-- `G1.ST` (R333): store 64 bytes. -/
def execG1St (ra : PIdx) (s : State) : Result := pStore encG1 ra s

/-- `G1.LDC` (R334): load the compressed form, 32 bytes. -/
def execG1Ldc (rd : PIdx) (s : State) : Result := pLoad 32 decG1C rd s

/-- `G1.STC` (R335): store the compressed form, 32 bytes. -/
def execG1Stc (ra : PIdx) (s : State) : Result := pStore encG1C ra s

/-- `G1.MOV` (R216): a copy. -/
def execG1Mov (rd ra : PIdx) (s : State) : Result := pUnary id rd ra s

/-- `G1.SMUL` (R264): `Mul(A, k mod r)`; the scalar register is kept. -/
def execG1Smul (rd ra : PIdx) (rb : KIdx) (s : State) : Result :=
  s.finish do
    let d ← pIdx rd
    let a ← pIdx ra
    let b ← kIdx rb
    let A ← getP s a .ra
    let k ← getK s b .rb
    return s.setP d (smul1 A k.toNat)

end Sys2Proof.Machine
end

