-- ==== Sys2Proof/Machine/G2.lean ====
section
/-! DEFINITION. The `G2.*` commands (`42_g2.md` R234 to R243, `46_point_encoding.md` R336 to R339, `43_scalar_mult.md` R265). A valid
`Q` register holds a point of the twist curve, not necessarily of G2. -/

namespace Sys2Proof.Machine

/-- `G2.ADD` (R234): the group law. -/
def execG2Add (rd ra rb : QIdx) (s : State) : Result := qBinary add2 rd ra rb s

/-- `G2.DBL` (R235): doubling. -/
def execG2Dbl (rd ra : QIdx) (s : State) : Result := qUnary dbl2 rd ra s

/-- `G2.NEG` (R236): negation. -/
def execG2Neg (rd ra : QIdx) (s : State) : Result := qUnary neg2 rd ra s

/-- `G2.ISONCURVE` (R237): `T <- OnCurve(A)`. -/
def execG2IsOnCurve (ra : QIdx) (s : State) : Result := qTest onCurve2 ra s

/-- `G2.ISID` (R238): `T <- (A = O)`. -/
def execG2IsId (ra : QIdx) (s : State) : Result := qTest pointIsId ra s

/-- `G2.EQ` (R239): `T <- Eq(A, B)`. -/
def execG2Eq (ra rb : QIdx) (s : State) : Result := qTest2 eq2 ra rb s

/-- `G2.CHKSUB` (R240): raises `NotInSubgroup(SUB=1)` outside the order-`r` subgroup. -/
def execG2ChkSub (ra : QIdx) (s : State) : Result := qRequire inSubgroup2 .notInSubgroup ra s

/-- `G2.SETID` (R241): the identity as a value. -/
def execG2SetId (rd : QIdx) (s : State) : Result := qConst .infinity rd s

/-- `G2.GEN` (R242): the generator. -/
def execG2Gen (rd : QIdx) (s : State) : Result := qConst g2Gen rd s

/-- `G2.LD` (R336): load 128 bytes, checked to be on the curve. -/
def execG2Ld (rd : QIdx) (s : State) : Result := qLoad 128 decG2 rd s

/-- `G2.ST` (R337): store 128 bytes. -/
def execG2St (ra : QIdx) (s : State) : Result := qStore encG2 ra s

/-- `G2.LDC` (R338): load the compressed form, 64 bytes. -/
def execG2Ldc (rd : QIdx) (s : State) : Result := qLoad 64 decG2C rd s

/-- `G2.STC` (R339): store the compressed form, 64 bytes. -/
def execG2Stc (ra : QIdx) (s : State) : Result := qStore encG2C ra s

/-- `G2.MOV` (R243): a copy. -/
def execG2Mov (rd ra : QIdx) (s : State) : Result := qUnary id rd ra s

/-- `G2.SMUL` (R265): `Mul(A, k mod r)`; the scalar register is kept. -/
def execG2Smul (rd ra : QIdx) (rb : KIdx) (s : State) : Result :=
  s.finish do
    let d ← qIdx rd
    let a ← qIdx ra
    let b ← kIdx rb
    let A ← getQ s a .ra
    let k ← getK s b .rb
    return s.setQ d (smul2 A k.toNat)

end Sys2Proof.Machine
end

