-- ==== Sys2Proof/Machine/Miller.lean ====
section
/-! DEFINITION. The pairing engine (`44_pairing.md`): line functions and steps (R271 to R273), the line coefficients of a
point (R274), the Miller loop (R275 to R277), the final exponentiation (R280), the pairing (R283) and the product check
(`45_pairing_check.md` R300). Functions of values only; the commands are in `Pairing.lean` and `PairingCheck.lean`. -/

namespace Sys2Proof.Machine

/-- `Line(λ, μ, P) = yP + (-λ·xP)·ω + μ·v·ω` (R271). -/
def line (l m : Fp2) (xP yP : Fp) : Fp12 :=
  ⟨⟨⟨yP, fpZero⟩, fp2Zero, fp2Zero⟩, ⟨fp2Neg (fp2Scale l xP), m, fp2Zero⟩⟩

/-- What a step of the loop yields: slope `λ`, intercept `μ`, the next running point. -/
structure LineStep where
  l : Fp2
  m : Fp2
  next : G2Point
  deriving DecidableEq, Repr

/-- `DblStep(T)` (R272). `T = O`, for which the spec defines no step and which no loop reaches, has no line either and is
reported like a degenerate step. -/
def dblStep (T : G2Point) : Except Exn LineStep :=
  match T with
  | .infinity => .error (.degenerateStep 0)
  | .affine x y =>
    if y = fp2Zero then .error (.degenerateStep 0)
    else
      let l := tangentSlope fp2Ops x y
      .ok ⟨l, fp2Sub (fp2Mul l x) y, dbl2 (.affine x y)⟩

/-- `AddStep(T, R)` (R273); a point `O` as in `dblStep`. -/
def addStep (T R : G2Point) : Except Exn LineStep :=
  match T, R with
  | .affine xT yT, .affine xR yR =>
    if xT = xR then .error (.degenerateStep 0)
    else
      let l := chordSlope fp2Ops xT yT xR yR
      .ok ⟨l, fp2Sub (fp2Mul l xT) yT, add2 (.affine xT yT) (.affine xR yR)⟩
  | _, _ => .error (.degenerateStep 0)

/-- Multiply the accumulator by the line of a step at `P`. -/
def mulLine (f : Fp12) (st : LineStep) (xP yP : Fp) : Fp12 := fp12Mul f (line st.l st.m xP yP)

/-- The loop of R275 over the bits `n-1` down to 0 of `s`: the accumulator and the running point after it. -/
def millerLoop (xP yP : Fp) (Q : G2Point) : Nat → Fp12 → G2Point → Except Exn (Fp12 × G2Point)
  | 0, f, T => .ok (f, T)
  | n + 1, f, T =>
    match dblStep T with
    | .error x => .error x
    | .ok d =>
      let f1 := mulLine (fp12Sqr f) d xP yP
      if ateLoop.testBit n then
        match addStep d.next Q with
        | .error x => .error x
        | .ok a => millerLoop xP yP Q n (mulLine f1 a xP yP) a.next
      else millerLoop xP yP Q n f1 d.next

/-- The two closing steps of R275, with `π(Q)` and `-π²(Q)`. -/
def millerClose (xP yP : Fp) (Q : G2Point) (f : Fp12) (T : G2Point) : Except Exn Fp12 :=
  match addStep T (frobPoint Q) with
  | .error x => .error x
  | .ok a =>
    match addStep a.next (neg2 (frobSqPoint Q)) with
    | .error x => .error x
    | .ok b => .ok (mulLine (mulLine f a xP yP) b xP yP)

/-- `Miller(P, Q)` (R275); one if either point is the identity (R277), tested first (R276). -/
def miller (P : G1Point) (Q : G2Point) : Except Exn Fp12 :=
  match P, Q with
  | .infinity, _ => .ok fp12One
  | _, .infinity => .ok fp12One
  | .affine xP yP, .affine xQ yQ =>
    match millerLoop xP yP (.affine xQ yQ) 64 fp12One (.affine xQ yQ) with
    | .error x => .error x
    | .ok (f, T) => millerClose xP yP (.affine xQ yQ) f T

/-- The coefficients the loop of R274 produces over the bits `n-1` down to 0 of `s`, and the running point after it. -/
def lineCoeffsLoop (Q : G2Point) : Nat → G2Point → Except Exn (List (Fp2 × Fp2) × G2Point)
  | 0, T => .ok ([], T)
  | n + 1, T =>
    match dblStep T with
    | .error x => .error x
    | .ok d =>
      if ateLoop.testBit n then
        match addStep d.next Q with
        | .error x => .error x
        | .ok a =>
          match lineCoeffsLoop Q n a.next with
          | .error x => .error x
          | .ok (cs, T') => .ok ((d.l, d.m) :: (a.l, a.m) :: cs, T')
      else
        match lineCoeffsLoop Q n d.next with
        | .error x => .error x
        | .ok (cs, T') => .ok ((d.l, d.m) :: cs, T')

/-- `LineCoeffs(Q)` for `Q ≠ O`: the precomputable pairs `(λ, μ)` (R274). Not state: a cache of them is not observable
(`10_state.md` R62). -/
def lineCoeffs (Q : G2Point) : Except Exn (List (Fp2 × Fp2)) :=
  match lineCoeffsLoop Q 64 Q with
  | .error x => .error x
  | .ok (cs, T) =>
    match addStep T (frobPoint Q) with
    | .error x => .error x
    | .ok a =>
      match addStep a.next (neg2 (frobSqPoint Q)) with
      | .error x => .error x
      | .ok b => .ok (cs ++ [(a.l, a.m), (b.l, b.m)])

/-- The Miller loop from precomputed coefficients (R270 stages 1 and 2): the bits of `s` say how many lines each step
takes. -/
def millerEvalLoop (xP yP : Fp) : Nat → Fp12 → List (Fp2 × Fp2) → Fp12 × List (Fp2 × Fp2)
  | 0, f, cs => (f, cs)
  | n + 1, f, cs =>
    match cs with
    | [] => (f, [])
    | d :: cs =>
      let f1 := fp12Mul (fp12Sqr f) (line d.1 d.2 xP yP)
      if ateLoop.testBit n then
        match cs with
        | [] => (f1, [])
        | a :: cs => millerEvalLoop xP yP n (fp12Mul f1 (line a.1 a.2 xP yP)) cs
      else millerEvalLoop xP yP n f1 cs

/-- The value of the loop from the coefficients `LineCoeffs(Q)`, the closing lines multiplied in last. -/
def millerEval (xP yP : Fp) (cs : List (Fp2 × Fp2)) : Fp12 :=
  let r := millerEvalLoop xP yP 64 fp12One cs
  r.2.foldl (fun f c => fp12Mul f (line c.1 c.2 xP yP)) r.1

/-- The exponent `(p^12 - 1)/r` (R280). -/
def finalExponent : Nat := (Config.p ^ 12 - 1) / groupOrder

/-- `FinalExp(f) = f^((p^12 - 1)/r)` (R280); the command guards `f = 0`. -/
def finalExp (f : Fp12) : Fp12 := fp12Pow f finalExponent

/-- `GtExp(g, n)`: the `n`-fold product (R282). -/
def gtExp (g : Fp12) (n : Nat) : Fp12 := fp12Pow g n

/-- `Pairing(P, Q) = FinalExp(Miller(P, Q))` (R283). -/
def pairing (P : G1Point) (Q : G2Point) : Except Exn Fp12 :=
  match miller P Q with
  | .error x => .error x
  | .ok f => .ok (finalExp f)

/-- An exception of a Miller loop, reported with the index of its pair (`45_pairing_check.md` R300). -/
def Exn.atPair (i : Nat) : Exn → Exn
  | .degenerateStep _ => .degenerateStep i
  | x => x

/-- The accumulation of `PairingCheck` (R300) from index `i`: a pair with an identity is skipped, also when its other member
is outside G2 (R305); the first pair that raises is the lowest (R306). -/
def pairProduct : Nat → Fp12 → List G1Point → List G2Point → Except Exn Fp12
  | i, acc, P :: Ps, Q :: Qs =>
    if pointIsId P || pointIsId Q then pairProduct (i + 1) acc Ps Qs
    else
      match miller P Q with
      | .error x => .error (x.atPair i)
      | .ok f => pairProduct (i + 1) (fp12Mul acc f) Ps Qs
  | _, acc, _, _ => .ok acc

/-- `PairingCheck(g1, g2)` (R300). -/
def pairingCheck (g1 : List G1Point) (g2 : List G2Point) : Except Exn Bool :=
  if g1.length ≠ g2.length then .error .lengthMismatch
  else
    match pairProduct 0 fp12One g1 g2 with
    | .error x => .error x
    | .ok acc => .ok (fp12Eq (finalExp acc) fp12One)

end Sys2Proof.Machine
end

