-- ==== Sys2Proof/Machine/Gt.lean ====
section
/-! DEFINITION. The `GT.*` commands (`44_pairing.md` R289 to R295, `46_point_encoding.md` R331). Sources must carry the tag `GT`. -/

namespace Sys2Proof.Machine

/-- `GT.MUL` (R289): the product. -/
def execGtMul (rd ra rb : EIdx) (s : State) : Result := eBinary EVal.asGt EVal.gt fp12Mul rd ra rb s

/-- `GT.INV` (R290): the inverse; never `DivisionByZero`. -/
def execGtInv (rd ra : EIdx) (s : State) : Result := eUnary EVal.asGt EVal.gt fp12Inv rd ra s

/-- `GT.EXP` (R291): `a^(k mod r)`. -/
def execGtExp (rd ra : EIdx) (rb : KIdx) (s : State) : Result :=
  s.finish do
    let kb ← kIdx rb
    let a ← getE EVal.asGt s ra .ra
    let k ← getK s kb .rb
    return s.setE (eIdx rd) (.gt (gtExp a (k.toNat % groupOrder)))

/-- `GT.EQ` (R292): `T <- (a = b)`. -/
def execGtEq (ra rb : EIdx) (s : State) : Result := eTest2 EVal.asGt fp12Eq ra rb s

/-- `GT.ISONE` (R293): `T <- (a = 1)`. -/
def execGtIsOne (ra : EIdx) (s : State) : Result := eTest EVal.asGt (fun a => fp12Eq a fp12One) ra s

/-- `GT.ONE` (R294): the identity of GT. -/
def execGtOne (rd : EIdx) (s : State) : Result := eConst (.gt fp12One) rd s

/-- `GT.ST` (R331): store 384 bytes. -/
def execGtSt (ra : EIdx) (s : State) : Result := eStore EVal.asGt encFp12 ra s

/-- `GT.TOFP12` (R295): the same value with tag `FP12`. -/
def execGtToFp12 (rd ra : EIdx) (s : State) : Result :=
  s.finish do
    let a ← getE EVal.asGt s ra .ra
    return s.setE (eIdx rd) (.fp12 a)

end Sys2Proof.Machine
end

