-- ==== Sys2Proof/Machine/Pairing.lean ====
section
/-! DEFINITION. The pairing commands (`44_pairing.md` R284 to R288). -/

namespace Sys2Proof.Machine

/-- `MILLER` (R284): `(MLO, Miller(A, B))`; a degenerate step raises `NotInSubgroup(SUB=2)`. -/
def execMiller (rd : EIdx) (ra : PIdx) (rb : QIdx) (s : State) : Result :=
  s.finish do
    let a ← pIdx ra
    let b ← qIdx rb
    let A ← getP s a .ra
    let B ← getQ s b .rb
    let f ← Sys2Proof.Machine.miller A B
    return s.setE (eIdx rd) (.mlo f)

/-- `FINALEXP` (R285): `(GT, FinalExp(f))` of a tag `MLO` or `FP12`. -/
def execFinalExp (rd ra : EIdx) (s : State) : Result :=
  s.finish do
    let f ← getE EVal.asMloOrFp12 s ra .ra
    if f = fp12Zero then .error .divisionByZero
    else return s.setE (eIdx rd) (.gt (Sys2Proof.Machine.finalExp f))

/-- `PAIR` (R286): `(GT, FinalExp(Miller(A, B)))`. -/
def execPair (rd : EIdx) (ra : PIdx) (rb : QIdx) (s : State) : Result :=
  s.finish do
    let a ← pIdx ra
    let b ← qIdx rb
    let A ← getP s a .ra
    let B ← getQ s b .rb
    let f ← pairing A B
    return s.setE (eIdx rd) (.gt f)

/-- `MLO.MUL` (R287): the product of two Miller-loop outputs. -/
def execMloMul (rd ra rb : EIdx) (s : State) : Result := eBinary EVal.asMlo EVal.mlo fp12Mul rd ra rb s

/-- `MLO.ONE` (R288): the empty product. -/
def execMloOne (rd : EIdx) (s : State) : Result := eConst (.mlo fp12One) rd s

end Sys2Proof.Machine
end

