-- ==== Sys2Proof/Machine/PairingCheck.lean ====
section
/-! DEFINITION. The PairingCheck commands (`45_pairing_check.md` R302 to R305). -/

namespace Sys2Proof.Machine

/-- `PC.CLR` (R302): both lists empty. -/
def execPcClr (s : State) : Result := s.finish (.ok (s.setLists [] []))

/-- `PC.PUSH1` (R303): append to `L1`, at most 8. -/
def execPcPush1 (ra : PIdx) (s : State) : Result :=
  s.finish do
    let a ← pIdx ra
    let A ← getP s a .ra
    if Config.NPAIR ≤ s.l1.length then .error .list1Full
    else return s.setLists (s.l1 ++ [A]) s.l2

/-- `PC.PUSH2` (R304): append to `L2`, at most 8. -/
def execPcPush2 (ra : QIdx) (s : State) : Result :=
  s.finish do
    let a ← qIdx ra
    let B ← getQ s a .ra
    if Config.NPAIR ≤ s.l2.length then .error .list2Full
    else return s.setLists s.l1 (s.l2 ++ [B])

/-- `PC.RUN` (R305): `T <- PairingCheck(L1, L2)`; the lists are emptied on success only. -/
def execPcRun (s : State) : Result :=
  s.finish do
    let b ← pairingCheck s.l1 s.l2
    return (s.setT b).setLists [] []

end Sys2Proof.Machine
end

