-- ==== Sys2Proof/Machine/Scalar.lean ====
section
/-! DEFINITION. The scalar commands (`46_point_encoding.md` R340, R341). No command reads a scalar back. -/

namespace Sys2Proof.Machine

/-- `K.LD` (R340): any 32 bytes load. -/
def execKLd (rd : KIdx) (s : State) : Result :=
  s.finish do
    let d ← kIdx rd
    let B ← loadBytes s 32
    return s.setK d (some (decScalar B))

/-- `K.CLR` (R341): the register becomes EMPTY. -/
def execKClr (rd : KIdx) (s : State) : Result :=
  s.finish do
    let d ← kIdx rd
    return s.setK d none

end Sys2Proof.Machine
end

