-- ==== Sys2Proof/Machine/System.lean ====
section
/-! DEFINITION. The system commands (`47_system.md` R350 to R352). -/

namespace Sys2Proof.Machine

/-- `NOP` (R350): nothing but acceptance and completion. -/
def execNop (s : State) : Result := s.finish (.ok s)

/-- `ZEROIZE` (R351): every register, both lists and the buffer erased; `INTEN`, `CMD` kept. -/
def execZeroize (s : State) : Result := s.finish (.ok s.erase)

/-- `E.MOV` (R352): tag and value copied; every non-empty tag. -/
def execEMov (rd ra : EIdx) (s : State) : Result :=
  s.finish do
    if s.eregs[eIdx ra] = .empty then .error (.emptyOperand .ra)
    else return s.setE (eIdx rd) s.eregs[eIdx ra]

end Sys2Proof.Machine
end

