-- ==== Sys2Proof/Machine/Dispatch.lean ====
section
/-! DEFINITION. One arm per command: each a direct call of its meaning. -/

namespace Sys2Proof.Machine

def exec (i : Instr) (s : State) : Host.Outcome State Fault Refusal :=
  match i with
  | .nop => Sys2Proof.Machine.execNop s
  | .zeroize => Sys2Proof.Machine.execZeroize s
  | .eMov rd ra => Sys2Proof.Machine.execEMov rd ra s
  | .fpAdd rd ra rb => Sys2Proof.Machine.execFpAdd rd ra rb s
  | .fpSub rd ra rb => Sys2Proof.Machine.execFpSub rd ra rb s
  | .fpNeg rd ra => Sys2Proof.Machine.execFpNeg rd ra s
  | .fpMul rd ra rb => Sys2Proof.Machine.execFpMul rd ra rb s
  | .fpSqr rd ra => Sys2Proof.Machine.execFpSqr rd ra s
  | .fpInv rd ra => Sys2Proof.Machine.execFpInv rd ra s
  | .fpEq ra rb => Sys2Proof.Machine.execFpEq ra rb s
  | .fpZero rd => Sys2Proof.Machine.execFpZero rd s
  | .fpOne rd => Sys2Proof.Machine.execFpOne rd s
  | .fpLd rd => Sys2Proof.Machine.execFpLd rd s
  | .fpSt ra => Sys2Proof.Machine.execFpSt ra s
  | .fp2Add rd ra rb => Sys2Proof.Machine.execFp2Add rd ra rb s
  | .fp2Sub rd ra rb => Sys2Proof.Machine.execFp2Sub rd ra rb s
  | .fp2Neg rd ra => Sys2Proof.Machine.execFp2Neg rd ra s
  | .fp2Mul rd ra rb => Sys2Proof.Machine.execFp2Mul rd ra rb s
  | .fp2Sqr rd ra => Sys2Proof.Machine.execFp2Sqr rd ra s
  | .fp2Inv rd ra => Sys2Proof.Machine.execFp2Inv rd ra s
  | .fp2Eq ra rb => Sys2Proof.Machine.execFp2Eq ra rb s
  | .fp2Zero rd => Sys2Proof.Machine.execFp2Zero rd s
  | .fp2One rd => Sys2Proof.Machine.execFp2One rd s
  | .fp2Ld rd => Sys2Proof.Machine.execFp2Ld rd s
  | .fp2St ra => Sys2Proof.Machine.execFp2St ra s
  | .fp6Add rd ra rb => Sys2Proof.Machine.execFp6Add rd ra rb s
  | .fp6Sub rd ra rb => Sys2Proof.Machine.execFp6Sub rd ra rb s
  | .fp6Neg rd ra => Sys2Proof.Machine.execFp6Neg rd ra s
  | .fp6Mul rd ra rb => Sys2Proof.Machine.execFp6Mul rd ra rb s
  | .fp6Sqr rd ra => Sys2Proof.Machine.execFp6Sqr rd ra s
  | .fp6Inv rd ra => Sys2Proof.Machine.execFp6Inv rd ra s
  | .fp6Eq ra rb => Sys2Proof.Machine.execFp6Eq ra rb s
  | .fp6Zero rd => Sys2Proof.Machine.execFp6Zero rd s
  | .fp6One rd => Sys2Proof.Machine.execFp6One rd s
  | .fp6Ld rd => Sys2Proof.Machine.execFp6Ld rd s
  | .fp6St ra => Sys2Proof.Machine.execFp6St ra s
  | .fp12Add rd ra rb => Sys2Proof.Machine.execFp12Add rd ra rb s
  | .fp12Sub rd ra rb => Sys2Proof.Machine.execFp12Sub rd ra rb s
  | .fp12Neg rd ra => Sys2Proof.Machine.execFp12Neg rd ra s
  | .fp12Mul rd ra rb => Sys2Proof.Machine.execFp12Mul rd ra rb s
  | .fp12Sqr rd ra => Sys2Proof.Machine.execFp12Sqr rd ra s
  | .fp12Inv rd ra => Sys2Proof.Machine.execFp12Inv rd ra s
  | .fp12Eq ra rb => Sys2Proof.Machine.execFp12Eq ra rb s
  | .fp12Zero rd => Sys2Proof.Machine.execFp12Zero rd s
  | .fp12One rd => Sys2Proof.Machine.execFp12One rd s
  | .fp12Ld rd => Sys2Proof.Machine.execFp12Ld rd s
  | .fp12St ra => Sys2Proof.Machine.execFp12St ra s
  | .gtMul rd ra rb => Sys2Proof.Machine.execGtMul rd ra rb s
  | .gtInv rd ra => Sys2Proof.Machine.execGtInv rd ra s
  | .gtExp rd ra rb => Sys2Proof.Machine.execGtExp rd ra rb s
  | .gtEq ra rb => Sys2Proof.Machine.execGtEq ra rb s
  | .gtIsOne ra => Sys2Proof.Machine.execGtIsOne ra s
  | .gtOne rd => Sys2Proof.Machine.execGtOne rd s
  | .gtSt ra => Sys2Proof.Machine.execGtSt ra s
  | .gtToFp12 rd ra => Sys2Proof.Machine.execGtToFp12 rd ra s
  | .g1Add rd ra rb => Sys2Proof.Machine.execG1Add rd ra rb s
  | .g1Dbl rd ra => Sys2Proof.Machine.execG1Dbl rd ra s
  | .g1Neg rd ra => Sys2Proof.Machine.execG1Neg rd ra s
  | .g1IsOnCurve ra => Sys2Proof.Machine.execG1IsOnCurve ra s
  | .g1IsId ra => Sys2Proof.Machine.execG1IsId ra s
  | .g1Eq ra rb => Sys2Proof.Machine.execG1Eq ra rb s
  | .g1ChkSub ra => Sys2Proof.Machine.execG1ChkSub ra s
  | .g1SetId rd => Sys2Proof.Machine.execG1SetId rd s
  | .g1Gen rd => Sys2Proof.Machine.execG1Gen rd s
  | .g1Ld rd => Sys2Proof.Machine.execG1Ld rd s
  | .g1St ra => Sys2Proof.Machine.execG1St ra s
  | .g1Ldc rd => Sys2Proof.Machine.execG1Ldc rd s
  | .g1Stc ra => Sys2Proof.Machine.execG1Stc ra s
  | .g1Mov rd ra => Sys2Proof.Machine.execG1Mov rd ra s
  | .g1Smul rd ra rb => Sys2Proof.Machine.execG1Smul rd ra rb s
  | .g2Add rd ra rb => Sys2Proof.Machine.execG2Add rd ra rb s
  | .g2Dbl rd ra => Sys2Proof.Machine.execG2Dbl rd ra s
  | .g2Neg rd ra => Sys2Proof.Machine.execG2Neg rd ra s
  | .g2IsOnCurve ra => Sys2Proof.Machine.execG2IsOnCurve ra s
  | .g2IsId ra => Sys2Proof.Machine.execG2IsId ra s
  | .g2Eq ra rb => Sys2Proof.Machine.execG2Eq ra rb s
  | .g2ChkSub ra => Sys2Proof.Machine.execG2ChkSub ra s
  | .g2SetId rd => Sys2Proof.Machine.execG2SetId rd s
  | .g2Gen rd => Sys2Proof.Machine.execG2Gen rd s
  | .g2Ld rd => Sys2Proof.Machine.execG2Ld rd s
  | .g2St ra => Sys2Proof.Machine.execG2St ra s
  | .g2Ldc rd => Sys2Proof.Machine.execG2Ldc rd s
  | .g2Stc ra => Sys2Proof.Machine.execG2Stc ra s
  | .g2Mov rd ra => Sys2Proof.Machine.execG2Mov rd ra s
  | .g2Smul rd ra rb => Sys2Proof.Machine.execG2Smul rd ra rb s
  | .kLd rd => Sys2Proof.Machine.execKLd rd s
  | .kClr rd => Sys2Proof.Machine.execKClr rd s
  | .miller rd ra rb => Sys2Proof.Machine.execMiller rd ra rb s
  | .finalExp rd ra => Sys2Proof.Machine.execFinalExp rd ra s
  | .pair rd ra rb => Sys2Proof.Machine.execPair rd ra rb s
  | .mloMul rd ra rb => Sys2Proof.Machine.execMloMul rd ra rb s
  | .mloOne rd => Sys2Proof.Machine.execMloOne rd s
  | .pcClr => Sys2Proof.Machine.execPcClr s
  | .pcPush1 ra => Sys2Proof.Machine.execPcPush1 ra s
  | .pcPush2 ra => Sys2Proof.Machine.execPcPush2 ra s
  | .pcRun => Sys2Proof.Machine.execPcRun s

end Sys2Proof.Machine
end

