-- ==== Sys2Proof/Machine/Engine.lean ====
section
/-! DEFINITION. The engine's step, the completion of the command in `CMD` (`30_encoding.md` R109), and the effect of each
event (`60_exceptions.md` R380). -/

namespace Sys2Proof.Machine

/-- The completion step: decode the word of `CMD`; perform the command, or raise `IllegalCommand` (R109). -/
def completeCommand (s : State) : Result :=
  match decode s.cmd with
  | .ok i => exec i s
  | .error e => .next (s.raised (illegalExn e))

/-- The engine's turn: the completion while busy, nothing while idle (`10_state.md` R20, `60_exceptions.md` R385). -/
def engineTurn (s : State) : Result :=
  if s.status.busy then completeCommand s else .next s

/-- One event of the outside world. -/
def applyInput (ev : Input) (s : State) : Result :=
  match ev with
  | .read addr bits => .next (answered (busRead s addr bits))
  | .write addr bits data => .next (answered (busWrite s addr bits data))
  | .engine => engineTurn s
  | .integrityFailure => .next s.integrityFail
  | .hardwareReset => .next s.hardReset

/-- The command word of `nbits` bits, the bits above them 0. -/
def tableWord (nbits w : Nat) : Word := BitVec.ofNat 32 (w % 2 ^ nbits)

end Sys2Proof.Machine
end

