-- ==== Sys2Proof/Machine/Step.lean ====
section
/-! DEFINITION. One step of the system: the next event of the outside world, or, when none is pending, the engine's turn
(log 1). -/

namespace Sys2Proof.Machine

/-- One atomic event (`60_exceptions.md` R380): the first pending one, else the engine's turn, so that an accepted command
completes (`70_reset_and_hazards.md` R418). -/
def step (s : State) : Host.Outcome State Fault Refusal :=
  match s.inputs with
  | [] => engineTurn s
  | ev :: rest => applyInput ev (s.setInputs rest)

/-- The state in which the next step runs exactly the command word `w`: the word accepted as by the host's write to `CMD`
(`20_memory.md` R79), no other event pending (log 9). -/
def State.withFetchWord (s : State) (nbits w : Nat) : State := (s.accept (tableWord nbits w)).setInputs []

end Sys2Proof.Machine
end

