-- ==== Sys2Proof/Machine/Datapath.lean ====
section
/-! DEFINITION. The datapath forms the spec gives as references that no register or flag shows: the Karatsuba products
(`40_fp_tower.md` R126), Jacobian coordinates (`41_g1.md` R204), the Frobenius maps (`44_pairing.md` R279) and the
final-exponentiation chain (R281). The machine computes with the defining formulas; these are here so that their agreement
can be stated. -/

namespace Sys2Proof.Machine

/-! ## Products with fewer multiplications (R126) -/

/-- Fp2 multiply, 3 Fp multiplications. -/
def fp2MulKaratsuba (a b : Fp2) : Fp2 :=
  let v0 := fpMul a.a0 b.a0
  let v1 := fpMul a.a1 b.a1
  ⟨fpSub v0 v1, fpSub (fpSub (fpMul (fpAdd a.a0 a.a1) (fpAdd b.a0 b.a1)) v0) v1⟩

/-- Fp2 square, 2 Fp multiplications. -/
def fp2SqrComplex (a : Fp2) : Fp2 :=
  ⟨fpMul (fpAdd a.a0 a.a1) (fpSub a.a0 a.a1), fpMul (fpOfNat 2) (fpMul a.a0 a.a1)⟩

/-- Fp6 multiply, 6 Fp2 multiplications. -/
def fp6MulKaratsuba (a b : Fp6) : Fp6 :=
  let v0 := fp2Mul a.c0 b.c0
  let v1 := fp2Mul a.c1 b.c1
  let v2 := fp2Mul a.c2 b.c2
  ⟨fp2Add v0 (mulXi (fp2Sub (fp2Sub (fp2Mul (fp2Add a.c1 a.c2) (fp2Add b.c1 b.c2)) v1) v2)),
   fp2Add (fp2Sub (fp2Sub (fp2Mul (fp2Add a.c0 a.c1) (fp2Add b.c0 b.c1)) v0) v1) (mulXi v2),
   fp2Add (fp2Sub (fp2Sub (fp2Mul (fp2Add a.c0 a.c2) (fp2Add b.c0 b.c2)) v0) v2) v1⟩

/-- Fp12 multiply, 3 Fp6 multiplications. -/
def fp12MulKaratsuba (a b : Fp12) : Fp12 :=
  let v0 := fp6Mul a.y b.y
  let v1 := fp6Mul a.x b.x
  ⟨fp6Add v0 (mulV v1), fp6Sub (fp6Sub (fp6Mul (fp6Add a.x a.y) (fp6Add b.x b.y)) v0) v1⟩

/-! ## Jacobian coordinates (R204) -/

/-- A Jacobian triple: `(X·Z⁻², Y·Z⁻³)` for `Z ≠ 0`, the identity for `Z = 0`. -/
structure Jacobian (F : Type) where
  X : F
  Y : F
  Z : F
  deriving DecidableEq, Repr

section
variable {F : Type} [DecidableEq F] (K : FieldOps F)

/-- `8·C`, by doublings. -/
def times8 (c : F) : F := K.mul K.two (K.mul K.two (K.mul K.two c))

/-- `JacDbl`. -/
def jacDbl (P : Jacobian F) : Jacobian F :=
  let A := K.mul P.X P.X
  let B := K.mul P.Y P.Y
  let C := K.mul B B
  let XB := K.add P.X B
  let D := K.mul K.two (K.sub (K.sub (K.mul XB XB) A) C)
  let E := K.mul K.three A
  let X3 := K.sub (K.mul E E) (K.mul K.two D)
  ⟨X3, K.sub (K.mul E (K.sub D X3)) (times8 K C), K.mul (K.mul K.two P.Y) P.Z⟩

/-- `JacAdd`. Where the spec writes `(any, any, 0)` the two coordinates are the arguments `anyX anyY` (log 7). -/
def jacAdd (anyX anyY : F) (P1 P2 : Jacobian F) : Jacobian F :=
  if P1.Z = K.zero then P2
  else if P2.Z = K.zero then P1
  else
    let Z1s := K.mul P1.Z P1.Z
    let Z2s := K.mul P2.Z P2.Z
    let U1 := K.mul P1.X Z2s
    let U2 := K.mul P2.X Z1s
    let S1 := K.mul P1.Y (K.mul Z2s P2.Z)
    let S2 := K.mul P2.Y (K.mul Z1s P1.Z)
    let H := K.sub U2 U1
    let R := K.sub S2 S1
    if H = K.zero ∧ R = K.zero then jacDbl K P1
    else if H = K.zero then ⟨anyX, anyY, K.zero⟩
    else
      let H2 := K.mul H H
      let H3 := K.mul H2 H
      let V := K.mul U1 H2
      let X3 := K.sub (K.sub (K.mul R R) H3) (K.mul K.two V)
      ⟨X3, K.sub (K.mul R (K.sub V X3)) (K.mul S1 H3), K.mul (K.mul P1.Z P2.Z) H⟩

/-- `ToAffine`. -/
def toAffine (P : Jacobian F) : Point F :=
  if P.Z = K.zero then .infinity
  else
    let i := K.inv P.Z
    let i2 := K.mul i i
    .affine (K.mul P.X i2) (K.mul P.Y (K.mul i2 i))

/-- Equality decided on Jacobian representatives by cross-multiplying (`41_g1.md` R205), both `Z ≠ 0`. -/
def jacEq (P1 P2 : Jacobian F) : Bool :=
  let Z1s := K.mul P1.Z P1.Z
  let Z2s := K.mul P2.Z P2.Z
  decide (K.mul P1.X Z2s = K.mul P2.X Z1s ∧ K.mul P1.Y (K.mul Z2s P2.Z) = K.mul P2.Y (K.mul Z1s P1.Z))

end

/-! ## Frobenius maps of Fp12 (R279) -/

/-- `c_j`: conjugation for `j` odd, the identity for `j` even. -/
def frobCoeff (j : Nat) (g : Fp2) : Fp2 := if j % 2 = 1 then fp2Conj g else g

/-- `Frob_j(a) = Σ c_j(g_i)·γ[j][i]·ω^i` with `g0 = y0, g1 = x0, g2 = y1, g3 = x1, g4 = y2, g5 = x2`. -/
def frob (j : Nat) (a : Fp12) : Fp12 :=
  let m (i : Nat) (g : Fp2) : Fp2 := fp2Mul (frobCoeff j g) (gamma j i)
  ⟨⟨m 0 a.y.c0, m 2 a.y.c1, m 4 a.y.c2⟩, ⟨m 1 a.x.c0, m 3 a.x.c1, m 5 a.x.c2⟩⟩

/-! ## The final-exponentiation chain (R281) -/

/-- The easy part: `f^((p^6 - 1)(p^2 + 1))`. -/
def finalExpEasy (f : Fp12) : Fp12 :=
  let t := fp12Mul (fp12Conj f) (fp12Inv f)
  fp12Mul (frob 2 t) t

/-- The hard part, the chain in `z`. -/
def finalExpHard (t : Fp12) : Fp12 :=
  let pw (a : Fp12) : Fp12 := fp12Pow a bnZ
  let a1 := frob 1 t
  let a2 := frob 2 t
  let a3 := frob 1 a2
  let u1 := pw t
  let u2 := pw u1
  let u3 := pw u2
  let y0 := fp12Mul (fp12Mul a1 a2) a3
  let y1 := fp12Conj t
  let y2 := frob 2 u2
  let y3 := fp12Conj (frob 1 u1)
  let y4 := fp12Conj (fp12Mul u1 (frob 1 u2))
  let y5 := fp12Conj u2
  let y6 := fp12Conj (fp12Mul u3 (frob 1 u3))
  let t0 := fp12Mul (fp12Mul (fp12Sqr y6) y4) y5
  let t1 := fp12Mul (fp12Mul y3 y5) t0
  let t0 := fp12Mul t0 y2
  let t1 := fp12Sqr (fp12Mul (fp12Sqr t1) t0)
  let t0 := fp12Mul t1 y1
  let t1 := fp12Mul t1 y0
  fp12Mul (fp12Sqr t0) t1

/-- The reference decomposition of `FinalExp` (R281). -/
def finalExpChain (f : Fp12) : Fp12 := finalExpHard (finalExpEasy f)

end Sys2Proof.Machine
end

