-- ==== Sys2Proof/Machine/Timing.lean ====
section
/-! DEFINITION. The one timing rule of the spec, over the open parameter `LAT` (`70_reset_and_hazards.md` R417, R418,
`43_scalar_mult.md` R266): the latency of a command that completes normally depends on its opcode only. No step reads these
functions. Logs 4, 12 and 13. -/

namespace Sys2Proof.Machine

/-- `LAT(opcode)`: a positive integer (R418). -/
def lat (opcode : BitVec 8) : Nat := Config.latPred opcode + 1

/-- `LAT(PC.RUN, n)` for the lengths `n1` of `L1` and `n2` of `L2`; with `n1 = n2 = n` it is that of R417. R417 does not say which
length `n` is when they differ (`PC.RUN` then raises `LengthMismatch`): that the value is an open function of both is the
model's, DESIGN CHOICE, log 13. -/
def latPcRun (n1 n2 : Nat) : Nat := Config.latPcRunPred n1 n2 + 1

/-- The time of the command word `w`, with `n1` points in `L1` and `n2` in `L2`, when it completes normally (R417). -/
def latNormal (w : Word) (n1 n2 : Nat) : Nat :=
  if opcodeField w = 0xA3 then latPcRun n1 n2 else lat (opcodeField w)

/-- The time of a command that raises `code` and would take `full` cycles otherwise. R417 only permits an earlier time, a
function of the code, so it is open whether a code has one, and no earlier time passes `full`. That the relaxation is taken
or left for a code as a whole is the model's: DESIGN CHOICE, log 12. -/
def latError (code : BitVec 8) (full : Nat) : Nat :=
  match Config.latErrorPred code with
  | none => full
  | some n => min (n + 1) full

/-- The clock cycles from the acceptance to the completion of the command running in `s` (R417). -/
def latency (s : State) : Nat :=
  match completeCommand s with
  | .next t =>
    if t.status.err then latError (t.errinfo.truncate 8) (latNormal s.cmd s.l1.length s.l2.length)
    else latNormal s.cmd s.l1.length s.l2.length
  | .fault _ => 0
  | .refused _ => 0

end Sys2Proof.Machine
end

