-- ==== Sys2Proof/Safety.lean ====
section
/-! DEFINITION. The terms the statements use: the states a command can end in, written field by field from the rules; what each
command reads, writes and can raise, a table copied from the spec's own tables (`10_state.md` R32, `60_exceptions.md` R367,
R374); and the invariants. Nothing here is part of the machine. -/

namespace Sys2Proof.Machine

/-! ## Reading a state -/

/-- `E[i]` holds `v`. -/
abbrev State.holdsE (s : State) (i : EIdx) (v : EVal) : Prop := s.eregs[i.toNat]? = some v

/-- `P[i]` exists, is valid and holds `A`. -/
abbrev State.holdsP (s : State) (i : PIdx) (A : G1Point) : Prop := s.pregs[i.toNat]? = some (some A)

/-- `Q[i]` exists, is valid and holds `A`. -/
abbrev State.holdsQ (s : State) (i : QIdx) (A : G2Point) : Prop := s.qregs[i.toNat]? = some (some A)

/-- `K[i]` exists, is valid and holds `k`. -/
abbrev State.holdsK (s : State) (i : KIdx) (k : BitVec 256) : Prop := s.kregs[i.toNat]? = some (some k)

/-- The byte at a window address. -/
def State.byteAt (s : State) (a : Nat) : Byte := memRead s.mem a

/-- `IOBUF[i : i + n]`. -/
def State.buffer (s : State) (i n : Nat) : List Byte := (List.range n).map (fun k => s.byteAt (0x200 + (i + k)))

/-- The integer of the 32-byte block `j` of the buffer, big-endian. -/
def State.block (s : State) (j : Nat) : Nat := be (s.buffer (32 * j) 32)

/-- The `e`-fold product of `a`, one factor at a time (`40_fp_tower.md` R124, `44_pairing.md` R282). -/
def iterMul {α : Type} (mul : α → α → α) (one a : α) : Nat → α
  | 0 => one
  | e + 1 => mul (iterMul mul one a e) a

/-- The blocks `be32(c)` of coordinates, in buffer order. -/
def fpBlocks (cs : List Fp) : List Byte := cs.flatMap (fun c => be32 c.val)

/-- The blocks of the buffer, from block 0, hold exactly these integers. -/
abbrev State.blocksAre (s : State) (cs : List Fp) : Prop := (List.range cs.length).map s.block = cs.map (fun c => c.val)

/-- The coordinates of an Fp6 element in buffer order (`46_point_encoding.md` R312). -/
def Fp6.coords (a : Fp6) : List Fp := [a.c2.a1, a.c2.a0, a.c1.a1, a.c1.a0, a.c0.a1, a.c0.a0]

/-- The coordinates of an Fp12 element in buffer order (R313). -/
def Fp12.coords (a : Fp12) : List Fp := a.x.coords ++ a.y.coords

/-- The next state of a bus access that changes nothing but what the host has been answered. -/
def State.answeredOnly (s : State) (rest : List Input) (resp : Resp) (data : Word) : State :=
  { s with inputs := rest, reply := some ⟨resp, data⟩ }

/-- The next state of a blocked access (`20_memory.md` R81). -/
def State.overrun (s : State) (rest : List Input) : State :=
  { s with inputs := rest, reply := some ⟨.okay, 0⟩, intstat := s.intstat ||| 8#4 }

/-! ## The ends of a command (`30_encoding.md` R109, `60_exceptions.md` R372)

Each is the whole next state: a field that is not named keeps its value, so each states the frame too. -/

/-- `STATUS` at a normal completion. -/
def Status.ended (st : Status) : Status := { st with busy := false, done := true }

/-- Normal completion of a command that writes nothing. -/
def State.afterNone (s : State) : State :=
  { s with status := s.status.ended, intstat := s.intstat ||| 1#4 }

/-- Normal completion with `E[rd] <- v`. -/
def State.afterE (s : State) (rd : EIdx) (v : EVal) : State :=
  { s with eregs := s.eregs.setIfInBounds rd.toNat v, status := s.status.ended, intstat := s.intstat ||| 1#4 }

/-- Normal completion with `P[rd] <- A`. -/
def State.afterP (s : State) (rd : PIdx) (A : G1Point) : State :=
  { s with pregs := s.pregs.setIfInBounds rd.toNat (some A), status := s.status.ended, intstat := s.intstat ||| 1#4 }

/-- Normal completion with `Q[rd] <- A`. -/
def State.afterQ (s : State) (rd : QIdx) (A : G2Point) : State :=
  { s with qregs := s.qregs.setIfInBounds rd.toNat (some A), status := s.status.ended, intstat := s.intstat ||| 1#4 }

/-- Normal completion with `K[rd] <- k`. -/
def State.afterK (s : State) (rd : KIdx) (k : Option (BitVec 256)) : State :=
  { s with kregs := s.kregs.setIfInBounds rd.toNat k, status := s.status.ended, intstat := s.intstat ||| 1#4 }

/-- Normal completion with `T <- b`. -/
def State.afterT (s : State) (b : Bool) : State :=
  { s with status := { s.status with busy := false, done := true, tv := true, t := b }, intstat := s.intstat ||| 1#4 }

/-- Normal completion with the lists written. -/
def State.afterLists (s : State) (l1 : List G1Point) (l2 : List G2Point) : State :=
  { s with l1 := l1, l2 := l2, status := s.status.ended, intstat := s.intstat ||| 1#4 }

/-- `t` is `s` after the normal completion of `StoreBytes(B)` (`20_memory.md` R78): the buffer holds `B` then zeros, every
other address and every other field is as before. -/
def State.stored (s t : State) (B : List Byte) : Prop :=
  t = { s with mem := t.mem, iolen := BitVec.ofNat 9 B.length, status := s.status.ended, intstat := s.intstat ||| 1#4 } ∧
    (∀ k, k < B.length → t.byteAt (0x200 + k) = B.getD k 0) ∧
    (∀ k, B.length ≤ k → k < 384 → t.byteAt (0x200 + k) = 0) ∧
    (∀ a, a < 0x200 ∨ 0x380 ≤ a → t.byteAt a = s.byteAt a)

/-- Error completion with `(code, sub, idx)` (R372). -/
def State.afterRaise (s : State) (code sub idx : Nat) : State :=
  { s with
    status := { s.status with busy := false, done := true, err := true }
    errinfo := BitVec.ofNat 24 (code + 256 * sub + 65536 * idx)
    intstat := s.intstat ||| 3#4 }

/-! ## The opcode map by format (`30_encoding.md` R102, R103, R105) -/

/-- The opcodes of one format and one choice of register classes; for each register field its limit, `none` where the format
does not use it. -/
structure OpcodeFormat where
  opcodes : List Nat
  rd : Option Nat
  ra : Option Nat
  rb : Option Nat

/-- The 96 assigned opcodes of R105, by format and limits. -/
def opcodeFormats : List OpcodeFormat :=
  [⟨[0x00, 0x01, 0xA0, 0xA3], none, none, none⟩,
   ⟨[0x17, 0x18, 0x19, 0x27, 0x28, 0x29, 0x37, 0x38, 0x39, 0x47, 0x48, 0x49, 0x55, 0x94], some 16, none, none⟩,
   ⟨[0x67, 0x68, 0x69, 0x6B, 0x77, 0x78, 0x79, 0x7B], some 8, none, none⟩,
   ⟨[0x80, 0x81], some 4, none, none⟩,
   ⟨[0x1A, 0x2A, 0x3A, 0x4A, 0x54, 0x56], none, some 16, none⟩,
   ⟨[0x63, 0x64, 0x66, 0x6A, 0x6C, 0x73, 0x74, 0x76, 0x7A, 0x7C, 0xA1, 0xA2], none, some 8, none⟩,
   ⟨[0x02, 0x12, 0x14, 0x15, 0x22, 0x24, 0x25, 0x32, 0x34, 0x35, 0x42, 0x44, 0x45, 0x51, 0x57, 0x91], some 16, some 16, none⟩,
   ⟨[0x61, 0x62, 0x6D, 0x71, 0x72, 0x7D], some 8, some 8, none⟩,
   ⟨[0x16, 0x26, 0x36, 0x46, 0x53], none, some 16, some 16⟩,
   ⟨[0x65, 0x75], none, some 8, some 8⟩,
   ⟨[0x10, 0x11, 0x13, 0x20, 0x21, 0x23, 0x30, 0x31, 0x33, 0x40, 0x41, 0x43, 0x50, 0x93], some 16, some 16, some 16⟩,
   ⟨[0x60, 0x70], some 8, some 8, some 8⟩,
   ⟨[0x52], some 16, some 16, some 4⟩,
   ⟨[0x6E, 0x7E], some 8, some 8, some 4⟩,
   ⟨[0x90, 0x92], some 16, some 8, some 8⟩]

/-- Bits 11:0 or a register field the format does not use is not zero (R106). -/
def OpcodeFormat.nonZero (f : OpcodeFormat) (w : Word) : Prop :=
  w.toNat % 2 ^ 12 ≠ 0 ∨ (f.rd = none ∧ w.toNat / 2 ^ 20 % 16 ≠ 0) ∨ (f.ra = none ∧ w.toNat / 2 ^ 16 % 16 ≠ 0) ∨
    (f.rb = none ∧ w.toNat / 2 ^ 12 % 16 ≠ 0)

/-- A register field the format uses is at or above the limit of its class (R108). -/
def OpcodeFormat.outOfRange (f : OpcodeFormat) (w : Word) : Prop :=
  (∃ n, f.rd = some n ∧ n ≤ w.toNat / 2 ^ 20 % 16) ∨ (∃ n, f.ra = some n ∧ n ≤ w.toNat / 2 ^ 16 % 16) ∨
    ∃ n, f.rb = some n ∧ n ≤ w.toNat / 2 ^ 12 % 16

/-! ## The Miller loop as a list of steps (`44_pairing.md` R274, R275) -/

/-- The binary digits of `s` after the leading 1, most significant first (`10_state.md` R57). -/
def ateDigits : List Nat :=
  [1, 0, 0, 1, 1, 1, 0, 1, 0, 1, 1, 1, 1, 0, 0, 1, 0, 1, 1, 1, 0, 0, 0, 0, 0, 0, 1, 1, 1, 0, 0, 1] ++
  [1, 0, 1, 1, 1, 1, 1, 0, 0, 1, 1, 1, 0, 1, 1, 0, 0, 0, 1, 1, 1, 0, 1, 1, 1, 0, 1, 0, 1, 0, 0, 0]

/-- The steps for `Q = (x, y)`: `none` doubles the running point, `some R` adds `R`; the last two add `π(Q)` and `-π²(Q)`
(`42_g2.md` R233). -/
def ateSteps (x y : Fp2) : List (Option G2Point) :=
  ateDigits.flatMap (fun d => if d = 1 then [none, some (.affine x y)] else [none]) ++
    [some (.affine (fp2Mul (fp2Conj x) (gamma 1 2)) (fp2Mul (fp2Conj y) (gamma 1 3))),
     some (.affine (fp2Mul x (gamma 2 2)) (fp2Neg (fp2Mul y (gamma 2 3))))]

/-- The pairs `(λ, μ)` of a list of steps from the running point `T`, or the first degenerate step. -/
def walkLines : G2Point → List (Option G2Point) → Except Exn (List (Fp2 × Fp2))
  | _, [] => .ok []
  | T, st :: rest =>
    match (match st with | none => dblStep T | some R => addStep T R) with
    | .error e => .error e
    | .ok d =>
      match walkLines d.next rest with
      | .error e => .error e
      | .ok cs => .ok ((d.l, d.m) :: cs)

/-- The accumulator after the steps: a doubling squares it first, every step multiplies its line in. -/
def evalLines (xP yP : Fp) (steps : List (Option G2Point)) (cs : List (Fp2 × Fp2)) : Fp12 :=
  (steps.zip cs).foldl
    (fun f sc => fp12Mul (if sc.1.isNone then fp12Mul f f else f) (line sc.2.1 sc.2.2 xP yP)) fp12One

/-! ## What each command reads, writes and can raise -/

/-- A source register with, for an `E` register, the tag codes the command accepts (R367). -/
inductive Source where
  | e (r : EIdx) (tags : List Nat)
  | p (r : PIdx)
  | q (r : QIdx)
  | k (r : KIdx)
  deriving DecidableEq, Repr

/-- A destination register. -/
inductive Dest where
  | e (r : EIdx)
  | p (r : PIdx)
  | q (r : QIdx)
  | k (r : KIdx)
  deriving DecidableEq, Repr

/-- The source holds a value: tag not EMPTY, or valid = 1. -/
def Source.present (s : State) : Source → Bool
  | .e r _ => (s.eregs[r.toNat]?.map EVal.tag).getD 0 != 0
  | .p r => (s.pregs[r.toNat]?.map Option.isSome).getD false
  | .q r => (s.qregs[r.toNat]?.map Option.isSome).getD false
  | .k r => (s.kregs[r.toNat]?.map Option.isSome).getD false

/-- The command accepts the type of the source; `P`, `Q`, `K` registers have one type each. -/
def Source.accepted (s : State) : Source → Bool
  | .e r tags => tags.contains ((s.eregs[r.toNat]?.map EVal.tag).getD 0)
  | .p _ | .q _ | .k _ => true

/-- The source can be fetched. -/
def Source.ready (s : State) (x : Source) : Bool := x.present s && x.accepted s

/-- One row of the spec's tables for a command. -/
structure CommandFacts where
  /-- The source in field `ra`. -/
  srcA : Option Source := none
  /-- The source in field `rb`. -/
  srcB : Option Source := none
  /-- The destination register (R32). -/
  dest : Option Dest := none
  /-- The pairs `(CODE, SUB)` it can raise beyond `IllegalCommand` (R374). -/
  raises : List (Nat × Nat) := []
  /-- The byte count of a load. -/
  load : Option Nat := none
  /-- It writes the buffer (`*.ST`, `*.STC`). -/
  store : Bool := false
  /-- It writes `T` (`10_state.md` R40). -/
  test : Bool := false
  /-- It may write the lists. -/
  lists : Bool := false
  /-- It erases every register, both lists and the buffer. -/
  erases : Bool := false
  deriving DecidableEq, Repr

/-! The tag sets of R367. -/

def tagFp : List Nat := [1]
def tagFp2 : List Nat := [2]
def tagFp6 : List Nat := [3]
def tagFp12 : List Nat := [4]
def tagGt : List Nat := [5]
def tagMlo : List Nat := [6]
def tagMloOrFp12 : List Nat := [6, 4]
def tagAny : List Nat := [1, 2, 3, 4, 5, 6]

/-! The rows of R374. -/

def raisesNone : List (Nat × Nat) := []
def raisesEmpty : List (Nat × Nat) := [(0x11, 1), (0x11, 2)]
def raisesTyped : List (Nat × Nat) := [(0x11, 1), (0x11, 2), (0x12, 1), (0x12, 2)]
def raisesInverse : List (Nat × Nat) := [(0x11, 1), (0x12, 1), (0x05, 0)]
def raisesFieldLoad : List (Nat × Nat) := [(0x01, 1), (0x01, 2)]
def raisesKLoad : List (Nat × Nat) := [(0x01, 1)]
def raisesPointLoad : List (Nat × Nat) := [(0x01, 1), (0x01, 2), (0x02, 0)]
def raisesChkSub : List (Nat × Nat) := [(0x11, 1), (0x03, 1)]
def raisesMiller : List (Nat × Nat) := [(0x11, 1), (0x11, 2), (0x03, 2)]
def raisesPush : List (Nat × Nat) := [(0x11, 1), (0x13, 1), (0x13, 2)]
def raisesPcRun : List (Nat × Nat) := [(0x04, 0), (0x03, 2)]

/-- The table, one row per command. -/
def commandFacts : Instr → CommandFacts
  | .nop => { raises := raisesNone }
  | .zeroize => { raises := raisesNone, erases := true }
  | .eMov rd ra => { srcA := some (.e ra tagAny), dest := some (.e rd), raises := raisesEmpty }
  | .fpAdd rd ra rb => { srcA := some (.e ra tagFp), srcB := some (.e rb tagFp), dest := some (.e rd), raises := raisesTyped }
  | .fpSub rd ra rb => { srcA := some (.e ra tagFp), srcB := some (.e rb tagFp), dest := some (.e rd), raises := raisesTyped }
  | .fpNeg rd ra => { srcA := some (.e ra tagFp), dest := some (.e rd), raises := raisesTyped }
  | .fpMul rd ra rb => { srcA := some (.e ra tagFp), srcB := some (.e rb tagFp), dest := some (.e rd), raises := raisesTyped }
  | .fpSqr rd ra => { srcA := some (.e ra tagFp), dest := some (.e rd), raises := raisesTyped }
  | .fpInv rd ra => { srcA := some (.e ra tagFp), dest := some (.e rd), raises := raisesInverse }
  | .fpEq ra rb => { srcA := some (.e ra tagFp), srcB := some (.e rb tagFp), raises := raisesTyped, test := true }
  | .fpZero rd => { dest := some (.e rd), raises := raisesNone }
  | .fpOne rd => { dest := some (.e rd), raises := raisesNone }
  | .fpLd rd => { dest := some (.e rd), raises := raisesFieldLoad, load := some 32 }
  | .fpSt ra => { srcA := some (.e ra tagFp), raises := raisesTyped, store := true }
  | .fp2Add rd ra rb => { srcA := some (.e ra tagFp2), srcB := some (.e rb tagFp2), dest := some (.e rd), raises := raisesTyped }
  | .fp2Sub rd ra rb => { srcA := some (.e ra tagFp2), srcB := some (.e rb tagFp2), dest := some (.e rd), raises := raisesTyped }
  | .fp2Neg rd ra => { srcA := some (.e ra tagFp2), dest := some (.e rd), raises := raisesTyped }
  | .fp2Mul rd ra rb => { srcA := some (.e ra tagFp2), srcB := some (.e rb tagFp2), dest := some (.e rd), raises := raisesTyped }
  | .fp2Sqr rd ra => { srcA := some (.e ra tagFp2), dest := some (.e rd), raises := raisesTyped }
  | .fp2Inv rd ra => { srcA := some (.e ra tagFp2), dest := some (.e rd), raises := raisesInverse }
  | .fp2Eq ra rb => { srcA := some (.e ra tagFp2), srcB := some (.e rb tagFp2), raises := raisesTyped, test := true }
  | .fp2Zero rd => { dest := some (.e rd), raises := raisesNone }
  | .fp2One rd => { dest := some (.e rd), raises := raisesNone }
  | .fp2Ld rd => { dest := some (.e rd), raises := raisesFieldLoad, load := some 64 }
  | .fp2St ra => { srcA := some (.e ra tagFp2), raises := raisesTyped, store := true }
  | .fp6Add rd ra rb => { srcA := some (.e ra tagFp6), srcB := some (.e rb tagFp6), dest := some (.e rd), raises := raisesTyped }
  | .fp6Sub rd ra rb => { srcA := some (.e ra tagFp6), srcB := some (.e rb tagFp6), dest := some (.e rd), raises := raisesTyped }
  | .fp6Neg rd ra => { srcA := some (.e ra tagFp6), dest := some (.e rd), raises := raisesTyped }
  | .fp6Mul rd ra rb => { srcA := some (.e ra tagFp6), srcB := some (.e rb tagFp6), dest := some (.e rd), raises := raisesTyped }
  | .fp6Sqr rd ra => { srcA := some (.e ra tagFp6), dest := some (.e rd), raises := raisesTyped }
  | .fp6Inv rd ra => { srcA := some (.e ra tagFp6), dest := some (.e rd), raises := raisesInverse }
  | .fp6Eq ra rb => { srcA := some (.e ra tagFp6), srcB := some (.e rb tagFp6), raises := raisesTyped, test := true }
  | .fp6Zero rd => { dest := some (.e rd), raises := raisesNone }
  | .fp6One rd => { dest := some (.e rd), raises := raisesNone }
  | .fp6Ld rd => { dest := some (.e rd), raises := raisesFieldLoad, load := some 192 }
  | .fp6St ra => { srcA := some (.e ra tagFp6), raises := raisesTyped, store := true }
  | .fp12Add rd ra rb => { srcA := some (.e ra tagFp12), srcB := some (.e rb tagFp12), dest := some (.e rd), raises := raisesTyped }
  | .fp12Sub rd ra rb => { srcA := some (.e ra tagFp12), srcB := some (.e rb tagFp12), dest := some (.e rd), raises := raisesTyped }
  | .fp12Neg rd ra => { srcA := some (.e ra tagFp12), dest := some (.e rd), raises := raisesTyped }
  | .fp12Mul rd ra rb => { srcA := some (.e ra tagFp12), srcB := some (.e rb tagFp12), dest := some (.e rd), raises := raisesTyped }
  | .fp12Sqr rd ra => { srcA := some (.e ra tagFp12), dest := some (.e rd), raises := raisesTyped }
  | .fp12Inv rd ra => { srcA := some (.e ra tagFp12), dest := some (.e rd), raises := raisesInverse }
  | .fp12Eq ra rb => { srcA := some (.e ra tagFp12), srcB := some (.e rb tagFp12), raises := raisesTyped, test := true }
  | .fp12Zero rd => { dest := some (.e rd), raises := raisesNone }
  | .fp12One rd => { dest := some (.e rd), raises := raisesNone }
  | .fp12Ld rd => { dest := some (.e rd), raises := raisesFieldLoad, load := some 384 }
  | .fp12St ra => { srcA := some (.e ra tagFp12), raises := raisesTyped, store := true }
  | .gtMul rd ra rb => { srcA := some (.e ra tagGt), srcB := some (.e rb tagGt), dest := some (.e rd), raises := raisesTyped }
  | .gtInv rd ra => { srcA := some (.e ra tagGt), dest := some (.e rd), raises := raisesTyped }
  | .gtExp rd ra rb => { srcA := some (.e ra tagGt), srcB := some (.k rb), dest := some (.e rd), raises := raisesTyped }
  | .gtEq ra rb => { srcA := some (.e ra tagGt), srcB := some (.e rb tagGt), raises := raisesTyped, test := true }
  | .gtIsOne ra => { srcA := some (.e ra tagGt), raises := raisesTyped, test := true }
  | .gtOne rd => { dest := some (.e rd), raises := raisesNone }
  | .gtSt ra => { srcA := some (.e ra tagGt), raises := raisesTyped, store := true }
  | .gtToFp12 rd ra => { srcA := some (.e ra tagGt), dest := some (.e rd), raises := raisesTyped }
  | .g1Add rd ra rb => { srcA := some (.p ra), srcB := some (.p rb), dest := some (.p rd), raises := raisesEmpty }
  | .g1Dbl rd ra => { srcA := some (.p ra), dest := some (.p rd), raises := raisesEmpty }
  | .g1Neg rd ra => { srcA := some (.p ra), dest := some (.p rd), raises := raisesEmpty }
  | .g1IsOnCurve ra => { srcA := some (.p ra), raises := raisesEmpty, test := true }
  | .g1IsId ra => { srcA := some (.p ra), raises := raisesEmpty, test := true }
  | .g1Eq ra rb => { srcA := some (.p ra), srcB := some (.p rb), raises := raisesEmpty, test := true }
  | .g1ChkSub ra => { srcA := some (.p ra), raises := raisesChkSub }
  | .g1SetId rd => { dest := some (.p rd), raises := raisesNone }
  | .g1Gen rd => { dest := some (.p rd), raises := raisesNone }
  | .g1Ld rd => { dest := some (.p rd), raises := raisesPointLoad, load := some 64 }
  | .g1St ra => { srcA := some (.p ra), raises := raisesEmpty, store := true }
  | .g1Ldc rd => { dest := some (.p rd), raises := raisesPointLoad, load := some 32 }
  | .g1Stc ra => { srcA := some (.p ra), raises := raisesEmpty, store := true }
  | .g1Mov rd ra => { srcA := some (.p ra), dest := some (.p rd), raises := raisesEmpty }
  | .g1Smul rd ra rb => { srcA := some (.p ra), srcB := some (.k rb), dest := some (.p rd), raises := raisesEmpty }
  | .g2Add rd ra rb => { srcA := some (.q ra), srcB := some (.q rb), dest := some (.q rd), raises := raisesEmpty }
  | .g2Dbl rd ra => { srcA := some (.q ra), dest := some (.q rd), raises := raisesEmpty }
  | .g2Neg rd ra => { srcA := some (.q ra), dest := some (.q rd), raises := raisesEmpty }
  | .g2IsOnCurve ra => { srcA := some (.q ra), raises := raisesEmpty, test := true }
  | .g2IsId ra => { srcA := some (.q ra), raises := raisesEmpty, test := true }
  | .g2Eq ra rb => { srcA := some (.q ra), srcB := some (.q rb), raises := raisesEmpty, test := true }
  | .g2ChkSub ra => { srcA := some (.q ra), raises := raisesChkSub }
  | .g2SetId rd => { dest := some (.q rd), raises := raisesNone }
  | .g2Gen rd => { dest := some (.q rd), raises := raisesNone }
  | .g2Ld rd => { dest := some (.q rd), raises := raisesPointLoad, load := some 128 }
  | .g2St ra => { srcA := some (.q ra), raises := raisesEmpty, store := true }
  | .g2Ldc rd => { dest := some (.q rd), raises := raisesPointLoad, load := some 64 }
  | .g2Stc ra => { srcA := some (.q ra), raises := raisesEmpty, store := true }
  | .g2Mov rd ra => { srcA := some (.q ra), dest := some (.q rd), raises := raisesEmpty }
  | .g2Smul rd ra rb => { srcA := some (.q ra), srcB := some (.k rb), dest := some (.q rd), raises := raisesEmpty }
  | .kLd rd => { dest := some (.k rd), raises := raisesKLoad, load := some 32 }
  | .kClr rd => { dest := some (.k rd), raises := raisesNone }
  | .miller rd ra rb => { srcA := some (.p ra), srcB := some (.q rb), dest := some (.e rd), raises := raisesMiller }
  | .finalExp rd ra => { srcA := some (.e ra tagMloOrFp12), dest := some (.e rd), raises := raisesInverse }
  | .pair rd ra rb => { srcA := some (.p ra), srcB := some (.q rb), dest := some (.e rd), raises := raisesMiller }
  | .mloMul rd ra rb => { srcA := some (.e ra tagMlo), srcB := some (.e rb tagMlo), dest := some (.e rd), raises := raisesTyped }
  | .mloOne rd => { dest := some (.e rd), raises := raisesNone }
  | .pcClr => { raises := raisesNone, lists := true }
  | .pcPush1 ra => { srcA := some (.p ra), raises := raisesPush, lists := true }
  | .pcPush2 ra => { srcA := some (.q ra), raises := raisesPush, lists := true }
  | .pcRun => { raises := raisesPcRun, test := true, lists := true }

/-- The command can raise no exception that depends on a value: `EmptyOperand`, `TypeMismatch` and `ListFull` read tags,
valid bits and list lengths only. -/
def CommandFacts.raisesByKindOnly (f : CommandFacts) : Prop := ∀ c ∈ f.raises, c.1 = 0x11 ∨ c.1 = 0x12 ∨ c.1 = 0x13

/-- The two states differ at most in the values their registers, lists and buffer hold: tags, valid bits, list lengths,
`IOLEN` and the control registers agree. -/
abbrev State.sameKinds (s t : State) : Prop :=
  s.eregs.map EVal.tag = t.eregs.map EVal.tag ∧ s.pregs.map Option.isSome = t.pregs.map Option.isSome ∧
    s.qregs.map Option.isSome = t.qregs.map Option.isSome ∧ s.kregs.map Option.isSome = t.kregs.map Option.isSome ∧
    s.l1.length = t.l1.length ∧ s.l2.length = t.l2.length ∧ s.iolen = t.iolen ∧ s.status = t.status ∧
    s.errinfo = t.errinfo ∧ s.cmd = t.cmd ∧ s.inten = t.inten ∧ s.intstat = t.intstat

/-! ## Invariants -/

/-- The legal combinations of `STATUS` (`10_state.md` R41), and `ERRINFO != 0` exactly when `ERR = 1` (R42). -/
abbrev State.statusLegal (s : State) : Prop :=
  (s.status.busy = true → s.status.done = false ∧ s.status.err = false ∧ s.status.tv = false ∧ s.status.t = false) ∧
    (s.status.err = true → s.status.done = true ∧ s.status.tv = false) ∧
    (s.status.tv = false → s.status.t = false) ∧
    (s.status.fatal = true → s.status.busy = false ∧ s.status.done = true ∧ s.status.err = true) ∧
    (s.errinfo ≠ 0#24 ↔ s.status.err = true)

/-- The buffer is in its canonical form, and each list holds at most 8 points (R37). -/
abbrev State.storageLegal (s : State) : Prop := memWf s.mem = true ∧ s.l1.length ≤ 8 ∧ s.l2.length ≤ 8

/-- A register of a point file is not valid, or its point is on the curve. -/
def validOnCurve {F : Type} (onCurve : Point F → Bool) : Option (Point F) → Bool
  | none => true
  | some A => onCurve A

/-- Every valid point register and every list entry is on its curve (R27). -/
abbrev State.pointsOnCurve (s : State) : Prop :=
  s.pregs.toList.all (validOnCurve onCurve1) = true ∧ s.qregs.toList.all (validOnCurve onCurve2) = true ∧
    s.l1.all onCurve1 = true ∧ s.l2.all onCurve2 = true

/-- A `GT` value is a non-zero element with `g^r = 1`, an `MLO` value is not zero (R34). -/
def EVal.tagLegal : EVal → Bool
  | .gt g => decide (g ≠ fp12Zero) && decide (fp12Pow g groupOrder = fp12One)
  | .mlo f => decide (f ≠ fp12Zero)
  | .empty | .fp _ | .fp2 _ | .fp6 _ | .fp12 _ => true

/-- Every `E` register keeps the invariant of its tag (R34). -/
abbrev State.tagsLegal (s : State) : Prop := s.eregs.toList.all EVal.tagLegal = true

/-- While fatal everything is erased, and `ERRINFO` is the fatal code (`60_exceptions.md` R388). -/
abbrev State.fatalLegal (s : State) : Prop :=
  s.status.fatal = true →
    s.errinfo = 0x0000FF#24 ∧ s.eregs = Vector.replicate 16 .empty ∧ s.pregs = Vector.replicate 8 none ∧
      s.qregs = Vector.replicate 8 none ∧ s.kregs = Vector.replicate 4 none ∧ s.l1 = [] ∧ s.l2 = [] ∧ s.mem = [] ∧
      s.iolen = 0#9

end Sys2Proof.Machine
end

