-- ==== Sys2Proof/Certificates/Slice0/Obligations.lean ====
section
/-! DEFINITION. The statements for the provers, in the order of `OBLIGATIONS.json`. The states a command can end in
(`State.afterE`, `State.stored`, `State.afterRaise` and their kin) are whole states written out in `Safety.lean`, so an
equation with one of them states the effect and the frame together. -/

open Sys2Proof Sys2Proof.Machine

/-! ## Encoding (`30_encoding.md`) -/

/-- R101, R102, R105: the word of every well-formed command decodes to that command, with every operand at every value. -/
def Obligations.DecodeOfEncodeIsTheCommand : Prop :=
  ∀ i : Instr, i.wellFormed = true → decode (encode i) = .ok i

/-- R102, R103, R106, R109: a word that decodes is the word of the command it decodes to, and that command is well formed. -/
def Obligations.DecodedWordIsTheEncoding : Prop :=
  ∀ (w : Word) (i : Instr), decode w = .ok i → encode i = w ∧ i.wellFormed = true

/-- R106, R107, R108, R109: which words are no command, and which cause each has: a reserved opcode whatever the other bits;
else a non-zero bit in bits 11:0 or an unused field; else a used index at or above its limit. `opcodeFormats` is R105 by
format. -/
def Obligations.IllegalWordsAreRefusedByCause : Prop :=
  ∀ w : Word,
    (decode w = .error .reservedOpcode ↔
      ∃ r ∈ [(0x03, 0x0F), (0x1B, 0x1F), (0x2B, 0x2F), (0x3B, 0x3F), (0x4B, 0x4F), (0x58, 0x5F), (0x6F, 0x6F), (0x7F, 0x7F),
        (0x82, 0x8F), (0x95, 0x9F), (0xA4, 0xFF)], r.1 ≤ w.toNat / 2 ^ 24 ∧ w.toNat / 2 ^ 24 ≤ r.2) ∧
    (decode w = .error .reservedOpcode ∨ ∃ f ∈ opcodeFormats, w.toNat / 2 ^ 24 ∈ f.opcodes) ∧
    ∀ f ∈ opcodeFormats, w.toNat / 2 ^ 24 ∈ f.opcodes →
      (decode w = .error .nonZeroField ↔ f.nonZero w) ∧
      (decode w = .error .indexOutOfRange ↔ ¬ f.nonZero w ∧ f.outOfRange w)

/-- R110: the words of the spec's examples are these commands. -/
def Obligations.ExampleWordsDecode : Prop :=
  decode 0x10312000#32 = .ok (.fpAdd 3 1 2) ∧ decode 0x65012000#32 = .ok (.g1Eq 1 2) ∧
    decode 0x6E201000#32 = .ok (.g1Smul 2 0 1) ∧ decode 0x90412000#32 = .ok (.miller 4 1 2) ∧
    decode 0xA3000000#32 = .ok .pcRun ∧ decode 0x7A050000#32 = .ok (.g2St 5) ∧ decode 0x02540000#32 = .ok (.eMov 5 4) ∧
    decode 0x00000001#32 = .error .nonZeroField

/-- R109, R385, R418: while busy, a step with no other event pending, or with the engine's turn as the next event, performs
exactly the command in `CMD`; an illegal word completes with `IllegalCommand`; while idle nothing happens.
That the events of the outside world are the list `inputs`, and that the engine moves when it is empty, is the model's schedule (log 1). -/
def Obligations.StepRunsTheCommandInCmd : Prop :=
  (∀ (s : State) (i : Instr), s.inputs = [] → s.status.busy = true → decode s.cmd = .ok i → step s = exec i s) ∧
    (∀ (s : State) (rest : List Input) (i : Instr), s.inputs = .engine :: rest → s.status.busy = true →
      decode s.cmd = .ok i → step s = exec i { s with inputs := rest }) ∧
    (∀ (s : State) (e : Illegal), s.inputs = [] → s.status.busy = true → decode s.cmd = .error e →
      step s = .next (s.afterRaise 0x10 (match e with | .reservedOpcode => 1 | .nonZeroField => 2 | .indexOutOfRange => 3) 0)) ∧
    ∀ s : State, s.inputs = [] → s.status.busy = false → step s = .next s

/-! ## System commands (`47_system.md`) -/

/-- R350, R351, R352. -/
def Obligations.SystemCommandsComplete : Prop :=
  ∀ s : State,
    exec .nop s = .next s.afterNone ∧
    exec .zeroize s =
      .next { s with
        eregs := Vector.replicate 16 .empty
        pregs := Vector.replicate 8 none
        qregs := Vector.replicate 8 none
        kregs := Vector.replicate 4 none
        l1 := []
        l2 := []
        mem := []
        iolen := 0
        status := s.status.ended
        intstat := s.intstat ||| 1#4 } ∧
    ∀ (rd ra : EIdx) (v : EVal), s.holdsE ra v → v ≠ .empty → exec (.eMov rd ra) s = .next (s.afterE rd v)

/-! ## The field tower (`40_fp_tower.md`) -/

/-- R120, R131 to R135: results as integers modulo `p`. -/
def Obligations.FpArithmetic : Prop :=
  ∀ (s : State) (rd ra rb : EIdx) (a b : Fp), s.holdsE ra (.fp a) → s.holdsE rb (.fp b) →
    (∃ c : Fp, c.val = (a.val + b.val) % Config.p ∧ exec (.fpAdd rd ra rb) s = .next (s.afterE rd (.fp c))) ∧
    (∃ c : Fp, (c.val : Int) = ((a.val : Int) - b.val) % Config.p ∧ exec (.fpSub rd ra rb) s = .next (s.afterE rd (.fp c))) ∧
    (∃ c : Fp, (c.val : Int) = (-(a.val : Int)) % Config.p ∧ exec (.fpNeg rd ra) s = .next (s.afterE rd (.fp c))) ∧
    (∃ c : Fp, c.val = (a.val * b.val) % Config.p ∧ exec (.fpMul rd ra rb) s = .next (s.afterE rd (.fp c))) ∧
    ∃ c : Fp, c.val = (a.val * a.val) % Config.p ∧ exec (.fpSqr rd ra) s = .next (s.afterE rd (.fp c))

/-- R120, R125, R136: `FP.INV` writes the inverse, and raises `DivisionByZero` on zero and only there. -/
def Obligations.FpInverse : Prop :=
  ∀ (s : State) (rd ra : EIdx) (a : Fp), s.holdsE ra (.fp a) →
    (a.val ≠ 0 → ∃ c : Fp, (a.val * c.val) % Config.p = 1 ∧ exec (.fpInv rd ra) s = .next (s.afterE rd (.fp c))) ∧
    (a.val = 0 → exec (.fpInv rd ra) s = .next (s.afterRaise 0x05 0 0))

/-- R122, R141 to R145: results as integers modulo `p`, coordinate by coordinate. -/
def Obligations.Fp2Arithmetic : Prop :=
  ∀ (s : State) (rd ra rb : EIdx) (a b : Fp2), s.holdsE ra (.fp2 a) → s.holdsE rb (.fp2 b) →
    (∃ c : Fp2, c.a0.val = (a.a0.val + b.a0.val) % Config.p ∧ c.a1.val = (a.a1.val + b.a1.val) % Config.p ∧
      exec (.fp2Add rd ra rb) s = .next (s.afterE rd (.fp2 c))) ∧
    (∃ c : Fp2, (c.a0.val : Int) = ((a.a0.val : Int) - b.a0.val) % Config.p ∧
      (c.a1.val : Int) = ((a.a1.val : Int) - b.a1.val) % Config.p ∧
      exec (.fp2Sub rd ra rb) s = .next (s.afterE rd (.fp2 c))) ∧
    (∃ c : Fp2, (c.a0.val : Int) = (-(a.a0.val : Int)) % Config.p ∧ (c.a1.val : Int) = (-(a.a1.val : Int)) % Config.p ∧
      exec (.fp2Neg rd ra) s = .next (s.afterE rd (.fp2 c))) ∧
    (∃ c : Fp2, (c.a0.val : Int) = ((a.a0.val : Int) * b.a0.val - a.a1.val * b.a1.val) % Config.p ∧
      c.a1.val = (a.a0.val * b.a1.val + a.a1.val * b.a0.val) % Config.p ∧
      exec (.fp2Mul rd ra rb) s = .next (s.afterE rd (.fp2 c))) ∧
    ∃ c : Fp2, (c.a0.val : Int) = ((a.a0.val : Int) * a.a0.val - a.a1.val * a.a1.val) % Config.p ∧
      c.a1.val = (2 * a.a0.val * a.a1.val) % Config.p ∧
      exec (.fp2Sqr rd ra) s = .next (s.afterE rd (.fp2 c))

/-- R122, R125, R146: `FP2.INV` writes the inverse, and raises `DivisionByZero` on zero and only there. -/
def Obligations.Fp2Inverse : Prop :=
  ∀ (s : State) (rd ra : EIdx) (a : Fp2), s.holdsE ra (.fp2 a) →
    (¬ (a.a0.val = 0 ∧ a.a1.val = 0) →
      ∃ c : Fp2, fp2Mul a c = fp2One ∧ exec (.fp2Inv rd ra) s = .next (s.afterE rd (.fp2 c))) ∧
    (a.a0.val = 0 ∧ a.a1.val = 0 → exec (.fp2Inv rd ra) s = .next (s.afterRaise 0x05 0 0))

/-- R123, R124, R151 to R155, R161 to R165: coordinate-wise sums, differences and negatives; products by the formulas of the
tower. -/
def Obligations.Fp6AndFp12Arithmetic : Prop :=
  (∀ (s : State) (rd ra rb : EIdx) (a b : Fp6), s.holdsE ra (.fp6 a) → s.holdsE rb (.fp6 b) →
    exec (.fp6Add rd ra rb) s =
      .next (s.afterE rd (.fp6 ⟨fp2Add a.c0 b.c0, fp2Add a.c1 b.c1, fp2Add a.c2 b.c2⟩)) ∧
    exec (.fp6Sub rd ra rb) s =
      .next (s.afterE rd (.fp6 ⟨fp2Sub a.c0 b.c0, fp2Sub a.c1 b.c1, fp2Sub a.c2 b.c2⟩)) ∧
    exec (.fp6Neg rd ra) s = .next (s.afterE rd (.fp6 ⟨fp2Neg a.c0, fp2Neg a.c1, fp2Neg a.c2⟩)) ∧
    exec (.fp6Mul rd ra rb) s =
      .next (s.afterE rd (.fp6
        ⟨fp2Add (fp2Mul a.c0 b.c0) (fp2Mul (fp2Add (fp2Mul a.c1 b.c2) (fp2Mul a.c2 b.c1)) (fp2OfNat 9 1)),
         fp2Add (fp2Add (fp2Mul a.c0 b.c1) (fp2Mul a.c1 b.c0)) (fp2Mul (fp2Mul a.c2 b.c2) (fp2OfNat 9 1)),
         fp2Add (fp2Add (fp2Mul a.c0 b.c2) (fp2Mul a.c1 b.c1)) (fp2Mul a.c2 b.c0)⟩)) ∧
    exec (.fp6Sqr rd ra) s = .next (s.afterE rd (.fp6 (fp6Mul a a)))) ∧
  ∀ (s : State) (rd ra rb : EIdx) (a b : Fp12), s.holdsE ra (.fp12 a) → s.holdsE rb (.fp12 b) →
    exec (.fp12Add rd ra rb) s = .next (s.afterE rd (.fp12 ⟨fp6Add a.y b.y, fp6Add a.x b.x⟩)) ∧
    exec (.fp12Sub rd ra rb) s = .next (s.afterE rd (.fp12 ⟨fp6Sub a.y b.y, fp6Sub a.x b.x⟩)) ∧
    exec (.fp12Neg rd ra) s = .next (s.afterE rd (.fp12 ⟨fp6Neg a.y, fp6Neg a.x⟩)) ∧
    exec (.fp12Mul rd ra rb) s =
      .next (s.afterE rd (.fp12
        ⟨fp6Add (fp6Mul a.y b.y) (fp6Mul (fp6Mul a.x b.x) ⟨fp2Zero, fp2One, fp2Zero⟩),
         fp6Add (fp6Mul a.x b.y) (fp6Mul a.y b.x)⟩)) ∧
    exec (.fp12Sqr rd ra) s = .next (s.afterE rd (.fp12 (fp12Mul a a)))

/-- R123, R124, R125, R156, R166: the written value is the inverse; zero, and only zero, raises. -/
def Obligations.Fp6AndFp12Inverse : Prop :=
  (∀ (s : State) (rd ra : EIdx) (a : Fp6), s.holdsE ra (.fp6 a) →
    (a ≠ fp6Zero → ∃ c : Fp6, fp6Mul a c = fp6One ∧ exec (.fp6Inv rd ra) s = .next (s.afterE rd (.fp6 c))) ∧
    (a = fp6Zero → exec (.fp6Inv rd ra) s = .next (s.afterRaise 0x05 0 0))) ∧
  ∀ (s : State) (rd ra : EIdx) (a : Fp12), s.holdsE ra (.fp12 a) →
    (a ≠ fp12Zero → ∃ c : Fp12, fp12Mul a c = fp12One ∧ exec (.fp12Inv rd ra) s = .next (s.afterE rd (.fp12 c))) ∧
    (a = fp12Zero → exec (.fp12Inv rd ra) s = .next (s.afterRaise 0x05 0 0))

/-- `10_state.md` R53: the tower. Fp is the integers modulo `p`. Fp12 is a commutative ring: sums form a commutative group, products
are commutative, associative and distributive with unit one. Each level lies in the next as the elements with the other
coordinates zero, with its sums, products and unit; every element is `a0 + a1·u`, `c0 + c1·v + c2·v²`, `y + x·ω`; and `u² = -1`,
`v³ = ξ`, `ω² = v`. -/
def Obligations.TowerIsTheQuotientRing : Prop :=
  (∀ a b : Fp, (fpAdd a b).val = (a.val + b.val) % Config.p ∧ (fpMul a b).val = (a.val * b.val) % Config.p) ∧
  (∀ a b c : Fp12, fp12Add a b = fp12Add b a ∧ fp12Add (fp12Add a b) c = fp12Add a (fp12Add b c) ∧ fp12Add a fp12Zero = a ∧
    fp12Mul a b = fp12Mul b a ∧ fp12Mul (fp12Mul a b) c = fp12Mul a (fp12Mul b c) ∧
    fp12Mul a (fp12Add b c) = fp12Add (fp12Mul a b) (fp12Mul a c) ∧ fp12Mul fp12One a = a ∧
    fp12Add a (fp12Neg a) = fp12Zero ∧ fp12Sub a b = fp12Add a (fp12Neg b)) ∧
  (∀ a b : Fp, fp2Add ⟨a, fpZero⟩ ⟨b, fpZero⟩ = ⟨fpAdd a b, fpZero⟩ ∧ fp2Mul ⟨a, fpZero⟩ ⟨b, fpZero⟩ = ⟨fpMul a b, fpZero⟩ ∧
    fp2Add ⟨a, fpZero⟩ (fp2Mul ⟨b, fpZero⟩ ⟨fpZero, fpOne⟩) = ⟨a, b⟩) ∧
  (∀ a b c : Fp2,
    fp6Add ⟨a, fp2Zero, fp2Zero⟩ ⟨b, fp2Zero, fp2Zero⟩ = ⟨fp2Add a b, fp2Zero, fp2Zero⟩ ∧
    fp6Mul ⟨a, fp2Zero, fp2Zero⟩ ⟨b, fp2Zero, fp2Zero⟩ = ⟨fp2Mul a b, fp2Zero, fp2Zero⟩ ∧
    ∀ v : Fp6, v = ⟨fp2Zero, fp2One, fp2Zero⟩ →
      fp6Add (fp6Add ⟨a, fp2Zero, fp2Zero⟩ (fp6Mul ⟨b, fp2Zero, fp2Zero⟩ v)) (fp6Mul ⟨c, fp2Zero, fp2Zero⟩ (fp6Mul v v)) =
        ⟨a, b, c⟩) ∧
  (∀ a b : Fp6, fp12Add ⟨a, fp6Zero⟩ ⟨b, fp6Zero⟩ = ⟨fp6Add a b, fp6Zero⟩ ∧
    fp12Mul ⟨a, fp6Zero⟩ ⟨b, fp6Zero⟩ = ⟨fp6Mul a b, fp6Zero⟩ ∧
    fp12Add ⟨a, fp6Zero⟩ (fp12Mul ⟨b, fp6Zero⟩ ⟨fp6Zero, fp6One⟩) = ⟨a, b⟩) ∧
  (fp2One = ⟨fpOne, fpZero⟩ ∧ fp6One = ⟨fp2One, fp2Zero, fp2Zero⟩ ∧ fp12One = ⟨fp6One, fp6Zero⟩ ∧
    fp2Zero = ⟨fpZero, fpZero⟩ ∧ fp6Zero = ⟨fp2Zero, fp2Zero, fp2Zero⟩ ∧ fp12Zero = ⟨fp6Zero, fp6Zero⟩) ∧
  fp2Mul ⟨fpZero, fpOne⟩ ⟨fpZero, fpOne⟩ = fp2Neg fp2One ∧
  (∀ v : Fp6, v = ⟨fp2Zero, fp2One, fp2Zero⟩ → fp6Mul v (fp6Mul v v) = ⟨fp2OfNat 9 1, fp2Zero, fp2Zero⟩) ∧
  ∀ w : Fp12, w = ⟨fp6Zero, fp6One⟩ → fp12Mul w w = ⟨⟨fp2Zero, fp2One, fp2Zero⟩, fp6Zero⟩

/-- R128, R137, R147, R157, R167, `44_pairing.md` R292, R293: exact equality of elements. -/
def Obligations.EqualityTests : Prop :=
  ∀ (s : State) (ra rb : EIdx),
    (∀ a b : Fp, s.holdsE ra (.fp a) → s.holdsE rb (.fp b) →
      exec (.fpEq ra rb) s = .next (s.afterT (decide (a.val = b.val)))) ∧
    (∀ a b : Fp2, s.holdsE ra (.fp2 a) → s.holdsE rb (.fp2 b) →
      exec (.fp2Eq ra rb) s = .next (s.afterT (decide (a.a0.val = b.a0.val ∧ a.a1.val = b.a1.val)))) ∧
    (∀ a b : Fp6, s.holdsE ra (.fp6 a) → s.holdsE rb (.fp6 b) →
      exec (.fp6Eq ra rb) s = .next (s.afterT (decide (a.coords = b.coords)))) ∧
    (∀ a b : Fp12, s.holdsE ra (.fp12 a) → s.holdsE rb (.fp12 b) →
      exec (.fp12Eq ra rb) s = .next (s.afterT (decide (a.coords = b.coords)))) ∧
    (∀ a b : Fp12, s.holdsE ra (.gt a) → s.holdsE rb (.gt b) →
      exec (.gtEq ra rb) s = .next (s.afterT (decide (a.coords = b.coords)))) ∧
    ∀ a : Fp12, s.holdsE ra (.gt a) →
      exec (.gtIsOne ra) s = .next (s.afterT (decide (a.coords = List.replicate 11 (fpOfNat 0) ++ [fpOfNat 1])))

/-- R138, R139, R148, R149, R158, R159, R168, R169; `44_pairing.md` R288, R294; `41_g1.md` R214, R215; `42_g2.md` R241,
R242: constants, in every state. -/
def Obligations.ConstantCommands : Prop :=
  ∀ (s : State) (rd : RegIdx),
    exec (.fpZero rd) s = .next (s.afterE rd (.fp (fpOfNat 0))) ∧
    exec (.fpOne rd) s = .next (s.afterE rd (.fp (fpOfNat 1))) ∧
    exec (.fp2Zero rd) s = .next (s.afterE rd (.fp2 (fp2OfNat 0 0))) ∧
    exec (.fp2One rd) s = .next (s.afterE rd (.fp2 (fp2OfNat 1 0))) ∧
    exec (.fp6Zero rd) s = .next (s.afterE rd (.fp6 ⟨fp2OfNat 0 0, fp2OfNat 0 0, fp2OfNat 0 0⟩)) ∧
    exec (.fp6One rd) s = .next (s.afterE rd (.fp6 ⟨fp2OfNat 1 0, fp2OfNat 0 0, fp2OfNat 0 0⟩)) ∧
    exec (.fp12Zero rd) s = .next (s.afterE rd (.fp12 ⟨fp6Zero, fp6Zero⟩)) ∧
    exec (.fp12One rd) s = .next (s.afterE rd (.fp12 ⟨fp6One, fp6Zero⟩)) ∧
    exec (.gtOne rd) s = .next (s.afterE rd (.gt ⟨fp6One, fp6Zero⟩)) ∧
    exec (.mloOne rd) s = .next (s.afterE rd (.mlo ⟨fp6One, fp6Zero⟩)) ∧
    (rd.toNat < 8 →
      exec (.g1SetId rd) s = .next (s.afterP rd .infinity) ∧
      exec (.g1Gen rd) s = .next (s.afterP rd (.affine (fpOfNat 1) (fpOfNat 2))) ∧
      exec (.g2SetId rd) s = .next (s.afterQ rd .infinity) ∧
      exec (.g2Gen rd) s =
        .next (s.afterQ rd
          (.affine
            (fp2OfNat 0x1800deef121f1e76426a00665e5c4479674322d4f75edadd46debd5cd992f6ed
              0x198e9393920d483a7260bfb731fb5d25f1aa493335a9e71297e485b7aef312c2)
            (fp2OfNat 0x12c85ea5db8c6deb4aab71808dcb408fe3d1e7690c43d37b4ce6cc0166fa7daa
              0x090689d0585ff075ec9e99ad690c3395bc4b313370b38ef355acdadcd122975b))))

/-- `46_point_encoding.md` R310 to R313, R323, R325, R327, R329: a buffer whose blocks are canonical loads the element with
those coordinates; a block at or above `p` raises `InvalidEncoding(SUB=2)`. -/
def Obligations.FieldLoads : Prop :=
  ∀ (s : State) (rd : EIdx),
    (∀ a : Fp, s.iolen = 32#9 → s.blocksAre [a] → exec (.fpLd rd) s = .next (s.afterE rd (.fp a))) ∧
    (∀ a : Fp2, s.iolen = 64#9 → s.blocksAre [a.a1, a.a0] → exec (.fp2Ld rd) s = .next (s.afterE rd (.fp2 a))) ∧
    (∀ a : Fp6, s.iolen = 192#9 → s.blocksAre a.coords → exec (.fp6Ld rd) s = .next (s.afterE rd (.fp6 a))) ∧
    (∀ a : Fp12, s.iolen = 384#9 → s.blocksAre a.coords → exec (.fp12Ld rd) s = .next (s.afterE rd (.fp12 a))) ∧
    (s.iolen = 32#9 → Config.p ≤ s.block 0 → exec (.fpLd rd) s = .next (s.afterRaise 0x01 2 0)) ∧
    (∀ j, j < 2 → s.iolen = 64#9 → Config.p ≤ s.block j → exec (.fp2Ld rd) s = .next (s.afterRaise 0x01 2 0)) ∧
    (∀ j, j < 6 → s.iolen = 192#9 → Config.p ≤ s.block j → exec (.fp6Ld rd) s = .next (s.afterRaise 0x01 2 0)) ∧
    ∀ j, j < 12 → s.iolen = 384#9 → Config.p ≤ s.block j → exec (.fp12Ld rd) s = .next (s.afterRaise 0x01 2 0)

/-- `20_memory.md` R78, `46_point_encoding.md` R324, R326, R328, R330, R331: the blocks stored, zeros behind them, every other
byte as before, from every state whose buffer is in its canonical form (an invariant: `StorageStaysLegal`). -/
def Obligations.FieldStores : Prop :=
  ∀ (s : State) (ra : EIdx), memWf s.mem = true →
    (∀ a : Fp, s.holdsE ra (.fp a) → ∃ t, exec (.fpSt ra) s = .next t ∧ s.stored t (fpBlocks [a])) ∧
    (∀ a : Fp2, s.holdsE ra (.fp2 a) → ∃ t, exec (.fp2St ra) s = .next t ∧ s.stored t (fpBlocks [a.a1, a.a0])) ∧
    (∀ a : Fp6, s.holdsE ra (.fp6 a) → ∃ t, exec (.fp6St ra) s = .next t ∧ s.stored t (fpBlocks a.coords)) ∧
    (∀ a : Fp12, s.holdsE ra (.fp12 a) → ∃ t, exec (.fp12St ra) s = .next t ∧ s.stored t (fpBlocks a.coords)) ∧
    ∀ a : Fp12, s.holdsE ra (.gt a) → ∃ t, exec (.gtSt ra) s = .next t ∧ s.stored t (fpBlocks a.coords)

/-! ## The point groups (`41_g1.md`, `42_g2.md`) -/

/-- R201, R202, R207, R208: the group law of G1 by its cases; `l` is the slope of the chord or tangent. -/
def Obligations.G1AdditionAndDoubling : Prop :=
  ∀ (s : State) (rd ra rb : PIdx), rd.toNat < 8 →
    (∀ A, s.holdsP ra A → s.holdsP rb .infinity → exec (.g1Add rd ra rb) s = .next (s.afterP rd A)) ∧
    (∀ B, s.holdsP ra .infinity → s.holdsP rb B → exec (.g1Add rd ra rb) s = .next (s.afterP rd B)) ∧
    (∀ x1 y1 x2 y2 : Fp, x1 ≠ x2 → s.holdsP ra (.affine x1 y1) → s.holdsP rb (.affine x2 y2) →
      ∃ l x3 y3 : Fp, fpMul l (fpSub x2 x1) = fpSub y2 y1 ∧ x3 = fpSub (fpSub (fpMul l l) x1) x2 ∧
        y3 = fpSub (fpMul l (fpSub x1 x3)) y1 ∧ exec (.g1Add rd ra rb) s = .next (s.afterP rd (.affine x3 y3))) ∧
    (∀ x y1 y2 : Fp, y1 ≠ y2 → s.holdsP ra (.affine x y1) → s.holdsP rb (.affine x y2) →
      exec (.g1Add rd ra rb) s = .next (s.afterP rd .infinity)) ∧
    (∀ x y : Fp, y.val ≠ 0 → s.holdsP ra (.affine x y) →
      ∃ l x3 y3 : Fp, fpMul l (fpMul (fpOfNat 2) y) = fpMul (fpOfNat 3) (fpMul x x) ∧
        x3 = fpSub (fpMul l l) (fpMul (fpOfNat 2) x) ∧ y3 = fpSub (fpMul l (fpSub x x3)) y ∧
        exec (.g1Dbl rd ra) s = .next (s.afterP rd (.affine x3 y3)) ∧
        (s.holdsP rb (.affine x y) → exec (.g1Add rd ra rb) s = .next (s.afterP rd (.affine x3 y3)))) ∧
    (∀ x y : Fp, y.val = 0 → s.holdsP ra (.affine x y) →
      exec (.g1Dbl rd ra) s = .next (s.afterP rd .infinity) ∧
        (s.holdsP rb (.affine x y) → exec (.g1Add rd ra rb) s = .next (s.afterP rd .infinity))) ∧
    (s.holdsP ra .infinity → exec (.g1Dbl rd ra) s = .next (s.afterP rd .infinity))

/-- R203, R209 to R213, R216: the other commands of G1. -/
def Obligations.G1MovesAndTests : Prop :=
  ∀ (s : State) (rd ra rb : PIdx) (A B : G1Point), rd.toNat < 8 → s.holdsP ra A → s.holdsP rb B →
    exec (.g1Mov rd ra) s = .next (s.afterP rd A) ∧
    (A = .infinity → exec (.g1Neg rd ra) s = .next (s.afterP rd .infinity)) ∧
    (∀ x y : Fp, A = .affine x y →
      ∃ c : Fp, (c.val : Int) = (-(y.val : Int)) % Config.p ∧ exec (.g1Neg rd ra) s = .next (s.afterP rd (.affine x c))) ∧
    (A = .infinity → exec (.g1IsOnCurve ra) s = .next (s.afterT true)) ∧
    (∀ x y : Fp, A = .affine x y →
      exec (.g1IsOnCurve ra) s =
        .next (s.afterT (decide ((y.val * y.val) % Config.p = (x.val * x.val * x.val + 3) % Config.p)))) ∧
    exec (.g1IsId ra) s = .next (s.afterT (decide (A = .infinity))) ∧
    exec (.g1Eq ra rb) s = .next (s.afterT (decide (A = B))) ∧
    (inSubgroup1 A = true → exec (.g1ChkSub ra) s = .next s.afterNone) ∧
    (inSubgroup1 A = false → exec (.g1ChkSub ra) s = .next (s.afterRaise 0x03 1 0))

/-- `42_g2.md` R231, R234, R235: the same law over Fp2. -/
def Obligations.G2AdditionAndDoubling : Prop :=
  ∀ (s : State) (rd ra rb : QIdx), rd.toNat < 8 →
    (∀ A, s.holdsQ ra A → s.holdsQ rb .infinity → exec (.g2Add rd ra rb) s = .next (s.afterQ rd A)) ∧
    (∀ B, s.holdsQ ra .infinity → s.holdsQ rb B → exec (.g2Add rd ra rb) s = .next (s.afterQ rd B)) ∧
    (∀ x1 y1 x2 y2 : Fp2, x1 ≠ x2 → s.holdsQ ra (.affine x1 y1) → s.holdsQ rb (.affine x2 y2) →
      ∃ l x3 y3 : Fp2, fp2Mul l (fp2Sub x2 x1) = fp2Sub y2 y1 ∧ x3 = fp2Sub (fp2Sub (fp2Mul l l) x1) x2 ∧
        y3 = fp2Sub (fp2Mul l (fp2Sub x1 x3)) y1 ∧ exec (.g2Add rd ra rb) s = .next (s.afterQ rd (.affine x3 y3))) ∧
    (∀ x y1 y2 : Fp2, y1 ≠ y2 → s.holdsQ ra (.affine x y1) → s.holdsQ rb (.affine x y2) →
      exec (.g2Add rd ra rb) s = .next (s.afterQ rd .infinity)) ∧
    (∀ x y : Fp2, y ≠ fp2Zero → s.holdsQ ra (.affine x y) →
      ∃ l x3 y3 : Fp2, fp2Mul l (fp2Mul (fp2OfNat 2 0) y) = fp2Mul (fp2OfNat 3 0) (fp2Mul x x) ∧
        x3 = fp2Sub (fp2Mul l l) (fp2Mul (fp2OfNat 2 0) x) ∧ y3 = fp2Sub (fp2Mul l (fp2Sub x x3)) y ∧
        exec (.g2Dbl rd ra) s = .next (s.afterQ rd (.affine x3 y3)) ∧
        (s.holdsQ rb (.affine x y) → exec (.g2Add rd ra rb) s = .next (s.afterQ rd (.affine x3 y3)))) ∧
    (∀ x y : Fp2, y = fp2Zero → s.holdsQ ra (.affine x y) →
      exec (.g2Dbl rd ra) s = .next (s.afterQ rd .infinity) ∧
        (s.holdsQ rb (.affine x y) → exec (.g2Add rd ra rb) s = .next (s.afterQ rd .infinity))) ∧
    (s.holdsQ ra .infinity → exec (.g2Dbl rd ra) s = .next (s.afterQ rd .infinity))

/-- `42_g2.md` R230, R236 to R240, R243: the other commands of the twist curve. -/
def Obligations.G2MovesAndTests : Prop :=
  ∀ (s : State) (rd ra rb : QIdx) (A B : G2Point), rd.toNat < 8 → s.holdsQ ra A → s.holdsQ rb B →
    exec (.g2Mov rd ra) s = .next (s.afterQ rd A) ∧
    (A = .infinity → exec (.g2Neg rd ra) s = .next (s.afterQ rd .infinity)) ∧
    (∀ x y : Fp2, A = .affine x y →
      exec (.g2Neg rd ra) s = .next (s.afterQ rd (.affine x (fp2Sub fp2Zero y)))) ∧
    (A = .infinity → exec (.g2IsOnCurve ra) s = .next (s.afterT true)) ∧
    (∀ x y : Fp2, A = .affine x y →
      exec (.g2IsOnCurve ra) s =
        .next (s.afterT (decide (fp2Mul y y = fp2Add (fp2Mul (fp2Mul x x) x)
          (fp2OfNat 0x2b149d40ceb8aaae81be18991be06ac3b5b4c5e559dbefa33267e6dc24a138e5
            0x009713b03af0fed4cd2cafadeed8fdf4a74fa084e52d1852e4a2bd0685c315d2))))) ∧
    exec (.g2IsId ra) s = .next (s.afterT (decide (A = .infinity))) ∧
    exec (.g2Eq ra rb) s = .next (s.afterT (decide (A = B))) ∧
    (inSubgroup2 A = true → exec (.g2ChkSub ra) s = .next s.afterNone) ∧
    (inSubgroup2 A = false → exec (.g2ChkSub ra) s = .next (s.afterRaise 0x03 1 0))

/-- `46_point_encoding.md` R314 to R318, R333, R335, R337, R339: the bytes stored for a point. -/
def Obligations.PointStores : Prop :=
  (∀ (s : State) (ra : PIdx) (x y : Fp), memWf s.mem = true → s.holdsP ra (.affine x y) →
    (∃ t, exec (.g1St ra) s = .next t ∧ s.stored t (fpBlocks [x, y])) ∧
    ∃ t, exec (.g1Stc ra) s = .next t ∧ s.stored t (be32 (x.val + 2 ^ 255 * (y.val % 2)))) ∧
  (∀ (s : State) (ra : PIdx), memWf s.mem = true → s.holdsP ra .infinity →
    (∃ t, exec (.g1St ra) s = .next t ∧ s.stored t (List.replicate 64 0)) ∧
    ∃ t, exec (.g1Stc ra) s = .next t ∧ s.stored t (List.replicate 32 0)) ∧
  (∀ (s : State) (ra : QIdx) (x y : Fp2), memWf s.mem = true → s.holdsQ ra (.affine x y) →
    (∃ t, exec (.g2St ra) s = .next t ∧ s.stored t (fpBlocks [x.a1, x.a0, y.a1, y.a0])) ∧
    ∃ t, exec (.g2Stc ra) s = .next t ∧
      s.stored t
        (be32 (x.a1.val + 2 ^ 255 * (if y.a0.val ≠ 0 then y.a0.val % 2 else y.a1.val % 2)) ++ be32 x.a0.val)) ∧
  ∀ (s : State) (ra : QIdx), memWf s.mem = true → s.holdsQ ra .infinity →
    (∃ t, exec (.g2St ra) s = .next t ∧ s.stored t (List.replicate 128 0)) ∧
    ∃ t, exec (.g2Stc ra) s = .next t ∧ s.stored t (List.replicate 64 0)

/-- `46_point_encoding.md` R314, R317, R320, R332, R334: what a G1 load writes or raises, by the integers of the blocks. The
root of the compressed form is the one with the sign of the string. -/
def Obligations.G1Loads : Prop :=
  ∀ (s : State) (rd : PIdx), rd.toNat < 8 →
    (s.iolen = 64#9 →
      (s.block 0 = 0 → s.block 1 = 0 → exec (.g1Ld rd) s = .next (s.afterP rd .infinity)) ∧
      (Config.p ≤ s.block 0 ∨ Config.p ≤ s.block 1 → exec (.g1Ld rd) s = .next (s.afterRaise 0x01 2 0)) ∧
      (∀ x y : Fp, s.blocksAre [x, y] → ¬ (x.val = 0 ∧ y.val = 0) →
        ((y.val * y.val) % Config.p = (x.val * x.val * x.val + 3) % Config.p →
          exec (.g1Ld rd) s = .next (s.afterP rd (.affine x y))) ∧
        ((y.val * y.val) % Config.p ≠ (x.val * x.val * x.val + 3) % Config.p →
          exec (.g1Ld rd) s = .next (s.afterRaise 0x02 0 0)))) ∧
    (s.iolen = 32#9 →
      (s.block 0 = 0 → exec (.g1Ldc rd) s = .next (s.afterP rd .infinity)) ∧
      (Config.p ≤ s.block 0 % 2 ^ 255 → exec (.g1Ldc rd) s = .next (s.afterRaise 0x01 2 0)) ∧
      (∀ x y : Fp, s.block 0 ≠ 0 → s.block 0 % 2 ^ 255 = x.val → s.block 0 / 2 ^ 255 = y.val % 2 →
        (y.val * y.val) % Config.p = (x.val * x.val * x.val + 3) % Config.p →
        exec (.g1Ldc rd) s = .next (s.afterP rd (.affine x y))) ∧
      (∀ x : Fp, s.block 0 ≠ 0 → s.block 0 % 2 ^ 255 = x.val →
        (∃ y : Fp, (y.val * y.val) % Config.p = (x.val * x.val * x.val + 3) % Config.p) ∨
        exec (.g1Ldc rd) s = .next (s.afterRaise 0x02 0 0)))

/-- `46_point_encoding.md` R315, R316, R318, R320, R336, R338: the same for the twist curve. -/
def Obligations.G2Loads : Prop :=
  ∀ (s : State) (rd : QIdx), rd.toNat < 8 →
    (s.iolen = 128#9 →
      (s.block 0 = 0 → s.block 1 = 0 → s.block 2 = 0 → s.block 3 = 0 →
        exec (.g2Ld rd) s = .next (s.afterQ rd .infinity)) ∧
      (∀ j, j < 4 → Config.p ≤ s.block j → exec (.g2Ld rd) s = .next (s.afterRaise 0x01 2 0)) ∧
      (∀ x y : Fp2, s.blocksAre [x.a1, x.a0, y.a1, y.a0] → ¬ (x = fp2Zero ∧ y = fp2Zero) →
        (onCurve2 (.affine x y) = true → exec (.g2Ld rd) s = .next (s.afterQ rd (.affine x y))) ∧
        (onCurve2 (.affine x y) = false → exec (.g2Ld rd) s = .next (s.afterRaise 0x02 0 0)))) ∧
    (s.iolen = 64#9 →
      (s.block 0 = 0 → s.block 1 = 0 → exec (.g2Ldc rd) s = .next (s.afterQ rd .infinity)) ∧
      (Config.p ≤ s.block 0 % 2 ^ 255 ∨ Config.p ≤ s.block 1 → exec (.g2Ldc rd) s = .next (s.afterRaise 0x01 2 0)) ∧
      (∀ x y : Fp2, ¬ (s.block 0 = 0 ∧ s.block 1 = 0) → s.block 0 % 2 ^ 255 = x.a1.val → s.block 1 = x.a0.val →
        s.block 0 / 2 ^ 255 = (if y.a0.val ≠ 0 then y.a0.val % 2 else y.a1.val % 2) → onCurve2 (.affine x y) = true →
        exec (.g2Ldc rd) s = .next (s.afterQ rd (.affine x y))) ∧
      (∀ x : Fp2, ¬ (s.block 0 = 0 ∧ s.block 1 = 0) → s.block 0 % 2 ^ 255 = x.a1.val → s.block 1 = x.a0.val →
        (∃ y : Fp2, onCurve2 (.affine x y) = true) ∨ exec (.g2Ldc rd) s = .next (s.afterRaise 0x02 0 0)))

/-- `46_point_encoding.md` R322: round trip of the eight forms, both ways. -/
def Obligations.EncodingRoundTrips : Prop :=
  (∀ a : Fp, decFp (encFp a) = .ok a) ∧ (∀ a : Fp2, decFp2 (encFp2 a) = .ok a) ∧
  (∀ a : Fp6, decFp6 (encFp6 a) = .ok a) ∧ (∀ a : Fp12, decFp12 (encFp12 a) = .ok a) ∧
  (∀ A : G1Point, onCurve1 A = true → decG1 (encG1 A) = .ok A ∧ decG1C (encG1C A) = .ok A) ∧
  (∀ A : G2Point, onCurve2 A = true → decG2 (encG2 A) = .ok A ∧ decG2C (encG2C A) = .ok A) ∧
  ∀ B : List Byte,
    (∀ a, B.length = 32 → decFp B = .ok a → encFp a = B) ∧ (∀ a, B.length = 64 → decFp2 B = .ok a → encFp2 a = B) ∧
    (∀ a, B.length = 192 → decFp6 B = .ok a → encFp6 a = B) ∧ (∀ a, B.length = 384 → decFp12 B = .ok a → encFp12 a = B) ∧
    (∀ A, B.length = 64 → decG1 B = .ok A → encG1 A = B) ∧ (∀ A, B.length = 32 → decG1C B = .ok A → encG1C A = B) ∧
    (∀ A, B.length = 128 → decG2 B = .ok A → encG2 A = B) ∧ (∀ A, B.length = 64 → decG2C B = .ok A → encG2C A = B)

/-! ## Scalar multiplication (`43_scalar_mult.md`) -/

/-- R260, R261, R263, R264, R265, `41_g1.md` R206, `42_g2.md` R232: the ladder gives the repeated sum by the reduced scalar,
and the subgroup test is that `[r]A = O`, for every point of the curve.
The ladder is the spec's reference, not the only implementation (log 3). -/
def Obligations.ScalarMultiplicationIsRepeatedAddition : Prop :=
  (∀ (s : State) (rd ra : PIdx) (rb : KIdx) (A : G1Point) (k : BitVec 256), rd.toNat < 8 → s.holdsP ra A → s.holdsK rb k →
    onCurve1 A = true →
    exec (.g1Smul rd ra rb) s = .next (s.afterP rd (mul1 A (k.toNat % groupOrder)))) ∧
  (∀ (s : State) (rd ra : QIdx) (rb : KIdx) (A : G2Point) (k : BitVec 256), rd.toNat < 8 → s.holdsQ ra A → s.holdsK rb k →
    onCurve2 A = true →
    exec (.g2Smul rd ra rb) s = .next (s.afterQ rd (mul2 A (k.toNat % groupOrder)))) ∧
  (∀ A : G1Point, onCurve1 A = true → (inSubgroup1 A = true ↔ mul1 A groupOrder = .infinity)) ∧
  ∀ A : G2Point, onCurve2 A = true → (inSubgroup2 A = true ↔ mul2 A groupOrder = .infinity)

/-- R262, R264, R265: the commands complete for every point and scalar, keep the scalar, and the special scalars give these
points. -/
def Obligations.ScalarMultiplicationSpecialCases : Prop :=
  (∀ (s : State) (rd ra : PIdx) (rb : KIdx) (A : G1Point) (k : BitVec 256), rd.toNat < 8 → s.holdsP ra A → s.holdsK rb k →
    ∃ B, exec (.g1Smul rd ra rb) s = .next (s.afterP rd B) ∧ (A = .infinity → B = .infinity) ∧
      (k.toNat % groupOrder = 0 → B = .infinity) ∧ (k.toNat % groupOrder = 1 → B = A)) ∧
  ∀ (s : State) (rd ra : QIdx) (rb : KIdx) (A : G2Point) (k : BitVec 256), rd.toNat < 8 → s.holdsQ ra A → s.holdsK rb k →
    ∃ B, exec (.g2Smul rd ra rb) s = .next (s.afterQ rd B) ∧ (A = .infinity → B = .infinity) ∧
      (k.toNat % groupOrder = 0 → B = .infinity) ∧ (k.toNat % groupOrder = 1 → B = A)

/-- `46_point_encoding.md` R319, R340, R341: any 32 bytes load; clearing is no error. -/
def Obligations.ScalarRegisterCommands : Prop :=
  ∀ (s : State) (rd : KIdx), rd.toNat < 4 →
    (s.iolen = 32#9 → exec (.kLd rd) s = .next (s.afterK rd (some (BitVec.ofNat 256 (s.block 0))))) ∧
    exec (.kClr rd) s = .next (s.afterK rd none)

/-! ## Pairing (`44_pairing.md`, `45_pairing_check.md`) -/

/-- R289, R290, R291, R295. -/
def Obligations.GtCommands : Prop :=
  ∀ (s : State) (rd ra rb : EIdx) (a : Fp12), s.holdsE ra (.gt a) →
    (∀ b, s.holdsE rb (.gt b) → exec (.gtMul rd ra rb) s = .next (s.afterE rd (.gt (fp12Mul a b)))) ∧
    exec (.gtInv rd ra) s = .next (s.afterE rd (.gt (fp12Inv a))) ∧
    (∀ (rk : KIdx) (k : BitVec 256), s.holdsK rk k →
      exec (.gtExp rd ra rk) s = .next (s.afterE rd (.gt (iterMul fp12Mul fp12One a (k.toNat % groupOrder))))) ∧
    exec (.gtToFp12 rd ra) s = .next (s.afterE rd (.fp12 a))

/-- R270 to R277, R280, R284, R286, `42_g2.md` R233: the coordinates of a line; the slope, intercept and next point of a doubling and
an addition step, by their equations, and when each is degenerate; a pair with an identity gives one; otherwise the value is
that of the 102 lines of the G2 point, in the order of the digits of R57, at the G1 point; a degenerate line raises
`NotInSubgroup(SUB=2)`. -/
def Obligations.MillerLoopEvaluatesTheLines : Prop :=
  (∀ (l m : Fp2) (xP yP : Fp), ∃ c : Fp2,
    (c.a0.val : Int) = (-((l.a0.val : Int) * xP.val)) % Config.p ∧ (c.a1.val : Int) = (-((l.a1.val : Int) * xP.val)) % Config.p ∧
    line l m xP yP =
      ⟨⟨⟨yP, fpOfNat 0⟩, fp2OfNat 0 0, fp2OfNat 0 0⟩, ⟨c, m, fp2OfNat 0 0⟩⟩) ∧
  (∀ x y : Fp2,
    (y = fp2Zero → dblStep (.affine x y) = .error (.degenerateStep 0)) ∧
    (y ≠ fp2Zero → ∃ l x3 y3 : Fp2, fp2Mul l (fp2Mul (fp2OfNat 2 0) y) = fp2Mul (fp2OfNat 3 0) (fp2Mul x x) ∧
      x3 = fp2Sub (fp2Mul l l) (fp2Mul (fp2OfNat 2 0) x) ∧ y3 = fp2Sub (fp2Mul l (fp2Sub x x3)) y ∧
      dblStep (.affine x y) = .ok ⟨l, fp2Sub (fp2Mul l x) y, .affine x3 y3⟩)) ∧
  (∀ xT yT xR yR : Fp2,
    (xT = xR → addStep (.affine xT yT) (.affine xR yR) = .error (.degenerateStep 0)) ∧
    (xT ≠ xR → ∃ l x3 y3 : Fp2, fp2Mul l (fp2Sub xR xT) = fp2Sub yR yT ∧
      x3 = fp2Sub (fp2Sub (fp2Mul l l) xT) xR ∧ y3 = fp2Sub (fp2Mul l (fp2Sub xT x3)) yT ∧
      addStep (.affine xT yT) (.affine xR yR) = .ok ⟨l, fp2Sub (fp2Mul l xT) yT, .affine x3 y3⟩)) ∧
  (∀ (s : State) (rd : EIdx) (ra : PIdx) (rb : QIdx) (A : G1Point) (B : G2Point), s.holdsP ra A → s.holdsQ rb B →
    (A = .infinity ∨ B = .infinity →
      exec (.miller rd ra rb) s = .next (s.afterE rd (.mlo fp12One)) ∧
      exec (.pair rd ra rb) s = .next (s.afterE rd (.gt fp12One))) ∧
    (∀ x y xQ yQ cs, A = .affine x y → B = .affine xQ yQ → walkLines B (ateSteps xQ yQ) = .ok cs →
      lineCoeffs B = .ok cs ∧ cs.length = 102 ∧ millerEval x y cs = evalLines x y (ateSteps xQ yQ) cs ∧
      exec (.miller rd ra rb) s = .next (s.afterE rd (.mlo (evalLines x y (ateSteps xQ yQ) cs))) ∧
      exec (.pair rd ra rb) s =
        .next (s.afterE rd (.gt (iterMul fp12Mul fp12One (evalLines x y (ateSteps xQ yQ) cs)
          ((Config.p ^ 12 - 1) / groupOrder))))) ∧
    ∀ x y xQ yQ e, A = .affine x y → B = .affine xQ yQ → walkLines B (ateSteps xQ yQ) = .error e →
      lineCoeffs B = .error e ∧
      exec (.miller rd ra rb) s = .next (s.afterRaise 0x03 2 0) ∧
      exec (.pair rd ra rb) s = .next (s.afterRaise 0x03 2 0))

/-- R280, R285, R287: the final exponentiation is the power `(p^12 - 1)/r`; zero, possible with tag `FP12`, raises. -/
def Obligations.FinalExponentiation : Prop :=
  ∀ (s : State) (rd ra rb : EIdx) (f : Fp12),
    (s.holdsE ra (.mlo f) ∨ s.holdsE ra (.fp12 f) →
      (f ≠ fp12Zero →
        exec (.finalExp rd ra) s =
          .next (s.afterE rd (.gt (iterMul fp12Mul fp12One f ((Config.p ^ 12 - 1) / groupOrder))))) ∧
      (f = fp12Zero → exec (.finalExp rd ra) s = .next (s.afterRaise 0x05 0 0))) ∧
    (∀ g, s.holdsE ra (.mlo f) → s.holdsE rb (.mlo g) →
      exec (.mloMul rd ra rb) s = .next (s.afterE rd (.mlo (fp12Mul f g))))

/-- `45_pairing_check.md` R302, R303, R304, `60_exceptions.md` R370. -/
def Obligations.ListCommands : Prop :=
  ∀ s : State,
    exec .pcClr s = .next (s.afterLists [] []) ∧
    (∀ (ra : PIdx) (A : G1Point), s.holdsP ra A →
      (s.l1.length < 8 → exec (.pcPush1 ra) s = .next (s.afterLists (s.l1 ++ [A]) s.l2)) ∧
      (s.l1.length = 8 → exec (.pcPush1 ra) s = .next (s.afterRaise 0x13 1 0))) ∧
    ∀ (ra : QIdx) (B : G2Point), s.holdsQ ra B →
      (s.l2.length < 8 → exec (.pcPush2 ra) s = .next (s.afterLists s.l1 (s.l2 ++ [B]))) ∧
      (s.l2.length = 8 → exec (.pcPush2 ra) s = .next (s.afterRaise 0x13 2 0))

/-- `45_pairing_check.md` R300, R305, R306, `60_exceptions.md` R365: `T` is whether the product of the Miller values, raised
once, is one, and the lists are emptied; different lengths raise first; the lowest degenerate pair is the one reported. -/
def Obligations.PairingCheckRun : Prop :=
  ∀ s : State,
    (s.l1.length ≠ s.l2.length → exec .pcRun s = .next (s.afterRaise 0x04 0 0)) ∧
    (∀ fs : List Fp12, s.l1.length = fs.length → s.l2.length = fs.length →
      (∀ (i : Nat) (A : G1Point) (B : G2Point) (f : Fp12), s.l1[i]? = some A → s.l2[i]? = some B → fs[i]? = some f → miller A B = .ok f) →
      exec .pcRun s =
        .next { s.afterT (decide (iterMul fp12Mul fp12One (fs.foldl fp12Mul fp12One) ((Config.p ^ 12 - 1) / groupOrder)
            = fp12One)) with l1 := [], l2 := [] }) ∧
    ∀ (i : Nat) (A : G1Point) (B : G2Point) (e : Exn), s.l1.length = s.l2.length →
      s.l1[i]? = some A → s.l2[i]? = some B → miller A B = .error e →
      (∀ j C D, j < i → s.l1[j]? = some C → s.l2[j]? = some D → ∃ f, miller C D = .ok f) →
      exec .pcRun s = .next (s.afterRaise 0x03 2 i)

/-- `40_fp_tower.md` R126, `41_g1.md` R204: the datapath forms give the values of the defining rules.
The coordinates the spec calls "any" are arguments (log 7). -/
def Obligations.DatapathFormsAgree : Prop :=
  (∀ a b : Fp2, fp2MulKaratsuba a b = fp2Mul a b ∧ fp2SqrComplex a = fp2Sqr a) ∧
  (∀ a b : Fp6, fp6MulKaratsuba a b = fp6Mul a b) ∧ (∀ a b : Fp12, fp12MulKaratsuba a b = fp12Mul a b) ∧
  (∀ P : Jacobian Fp, toAffine fpOps (jacDbl fpOps P) = pointDbl fpOps (toAffine fpOps P)) ∧
  (∀ (anyX anyY : Fp) (P1 P2 : Jacobian Fp),
    toAffine fpOps (jacAdd fpOps anyX anyY P1 P2) = pointAdd fpOps (toAffine fpOps P1) (toAffine fpOps P2)) ∧
  ∀ P1 P2 : Jacobian Fp, P1.Z ≠ fpZero → P2.Z ≠ fpZero →
    jacEq fpOps P1 P2 = pointEq (toAffine fpOps P1) (toAffine fpOps P2)

/-- `10_state.md` R51, R54, R55, and of R56 the items 1 to 5, 8, 9 and what item 7 says of `G2GEN`. -/
def Obligations.ParameterFacts : Prop :=
  Config.p = 36 * bnZ ^ 4 + 36 * bnZ ^ 3 + 24 * bnZ ^ 2 + 6 * bnZ + 1 ∧
  groupOrder = 36 * bnZ ^ 4 + 36 * bnZ ^ 3 + 18 * bnZ ^ 2 + 6 * bnZ + 1 ∧
  trace = 6 * bnZ ^ 2 + 1 ∧ Config.p + 1 - trace = groupOrder ∧ ateLoop = 6 * bnZ + 2 ∧
  Nat.Prime Config.p ∧ Nat.Prime groupOrder ∧ Config.p ≠ groupOrder ∧ 0 < bnZ ∧ Config.p % 4 = 3 ∧ Config.p % 6 = 1 ∧ Config.p < 2 ^ 254 ∧
  groupOrder ∣ Config.p ^ 12 - 1 ∧ (∀ k, 0 < k → k < 12 → ¬ groupOrder ∣ Config.p ^ k - 1) ∧
  fp2Mul twistB (fp2OfNat 9 1) = fp2OfNat 3 0 ∧
  fp2Pow (fp2OfNat 9 1) ((Config.p ^ 2 - 1) / 2) = fp2Neg fp2One ∧ fp2Pow (fp2OfNat 9 1) ((Config.p ^ 2 - 1) / 3) ≠ fp2One ∧
  (∀ a : Fp2, fp2Mul a a ≠ fp2OfNat 9 1 ∧ fp2Mul (fp2Mul a a) a ≠ fp2OfNat 9 1) ∧
  (∀ y : Fp, fpMul y y ≠ fpOfNat 3) ∧ (∀ y : Fp2, fp2Mul y y ≠ twistB) ∧ g2Gen ≠ .infinity ∧
  (∀ j k, 1 ≤ j → j ≤ 3 → k ≤ 5 → gamma j k = fp2Pow (fp2OfNat 9 1) (k * ((Config.p ^ j - 1) / 6))) ∧
  onCurve1 g1Gen = true ∧ onCurve2 g2Gen = true ∧ inSubgroup1 g1Gen = true ∧ inSubgroup2 g2Gen = true

/-! ## Exceptions (`60_exceptions.md`) -/

/-- `30_encoding.md` R103, R108: a register index at or above the limit of its class raises `IllegalCommand(SUB=3)`, before
any operand is looked at. -/
def Obligations.IndexOutOfRangeRaises : Prop :=
  ∀ (i : Instr) (s : State), i.wellFormed = false → exec i s = .next (s.afterRaise 0x10 3 0)

/-- R366, R367, R373: the operand in `ra` is tested before the one in `rb`, EMPTY before the tag. -/
def Obligations.OperandChecksInOrder : Prop :=
  ∀ (i : Instr) (s : State) (a : Source), i.wellFormed = true → (commandFacts i).srcA = some a →
    (a.present s = false → exec i s = .next (s.afterRaise 0x11 1 0)) ∧
    (a.present s = true → a.accepted s = false → exec i s = .next (s.afterRaise 0x12 1 0)) ∧
    ∀ b : Source, a.ready s = true → (commandFacts i).srcB = some b →
      (b.present s = false → exec i s = .next (s.afterRaise 0x11 2 0)) ∧
      (b.present s = true → b.accepted s = false → exec i s = .next (s.afterRaise 0x12 2 0))

/-- `20_memory.md` R77, `46_point_encoding.md` R320, R362: the length is checked first, for every load. -/
def Obligations.LoadLengthIsCheckedFirst : Prop :=
  ∀ (i : Instr) (s : State) (n : Nat), i.wellFormed = true → (commandFacts i).load = some n → s.iolen.toNat ≠ n →
    exec i s = .next (s.afterRaise 0x01 1 0)

/-- R372: a command accepted in an idle state that raises leaves, at its completion, every piece of state as it was before it
was accepted, except `STATUS`, `ERRINFO`, `CMD` and `INTSTAT`. -/
def Obligations.ErrorCompletionIsPrecise : Prop :=
  ∀ (s : State) (w : Word) (t : State), s.status.busy = false → s.status.fatal = false →
    completeCommand
        { s with
          cmd := w
          status := { busy := true, done := false, err := false, fatal := false, tv := false, t := false }
          errinfo := 0 } = .next t →
    t.status.err = true →
    ∃ code sub idx : Nat, 0 < code ∧ code < 256 ∧ sub < 256 ∧
      t = { s with
        cmd := w
        status := { busy := false, done := true, err := true, fatal := false, tv := false, t := false }
        errinfo := BitVec.ofNat 24 (code + 256 * sub + 65536 * idx)
        intstat := s.intstat ||| 3#4 }

/-- R374: what each command can raise, and that only `PC.RUN` reports an index other than 0. -/
def Obligations.ExceptionsOfEachCommand : Prop :=
  ∀ (i : Instr) (s t : State), i.wellFormed = true → s.status.err = false → exec i s = .next t → t.status.err = true →
    ∃ c idx, c ∈ (commandFacts i).raises ∧ t = s.afterRaise c.1 c.2 idx ∧ (i ≠ .pcRun → idx = 0) ∧
      (idx = 0 ∨ idx < s.l1.length)

/-- Every command ends the busy period: in every state it answers a next state, idle and done, with `INTSTAT.DONE` set and the
model's inputs as they were (`30_encoding.md` R109, `60_exceptions.md` R376). -/
def Obligations.EveryCommandCompletes : Prop :=
  ∀ (i : Instr) (s : State), ∃ t, exec i s = .next t ∧ t.status.busy = false ∧ t.status.done = true ∧
    t.status.fatal = s.status.fatal ∧ t.intstat.getLsbD 0 = true ∧ t.inputs = s.inputs

/-- `10_state.md` R32: which command writes which register, list or control register. -/
def Obligations.RegisterFrame : Prop :=
  ∀ (i : Instr) (s t : State), exec i s = .next t →
    t.cmd = s.cmd ∧ t.inten = s.inten ∧ t.inputs = s.inputs ∧ t.reply = s.reply ∧
    ((commandFacts i).erases = false →
      (∀ r : EIdx, (commandFacts i).dest ≠ some (.e r) → t.eregs[r.toNat]? = s.eregs[r.toNat]?) ∧
      (∀ r : PIdx, (commandFacts i).dest ≠ some (.p r) → t.pregs[r.toNat]? = s.pregs[r.toNat]?) ∧
      (∀ r : QIdx, (commandFacts i).dest ≠ some (.q r) → t.qregs[r.toNat]? = s.qregs[r.toNat]?) ∧
      (∀ r : KIdx, (commandFacts i).dest ≠ some (.k r) → t.kregs[r.toNat]? = s.kregs[r.toNat]?) ∧
      ((commandFacts i).lists = false → t.l1 = s.l1 ∧ t.l2 = s.l2))

/-- `10_state.md` R32, R59: the buffer is written by stores and `ZEROIZE` only; a store, which always goes to offset 0, writes
no address outside the buffer. -/
def Obligations.MemoryFrame : Prop :=
  ∀ (i : Instr) (s t : State), exec i s = .next t → (commandFacts i).erases = false →
    ((commandFacts i).store = false → (∀ a, t.byteAt a = s.byteAt a) ∧ t.iolen = s.iolen) ∧
    ((commandFacts i).store = true → ∀ a, a < 0x200 ∨ 0x380 ≤ a → t.byteAt a = s.byteAt a)

/-- `10_state.md` R40: a command sets `TV` exactly if it is a predicate command that completes without error. -/
def Obligations.TruthFlagWriters : Prop :=
  ∀ (i : Instr) (s t : State), exec i s = .next t → s.status.err = false → s.status.tv = false → s.status.t = false →
    (t.status.tv = true ↔ (commandFacts i).test = true ∧ t.status.err = false) ∧
    (t.status.tv = false → t.status.t = false)

/-! ## The slave port (`20_memory.md`) -/

/-- R75.
How an access and its answer stand in State is the model's (`inputs`, `reply`; log 1, log 2). -/
def Obligations.UnmappedAccessIsSlverr : Prop :=
  ∀ (s : State) (a : Addr) (n : Nat) (d : Word) (rest : List Input),
    (0x038 ≤ a.toNat ∧ a.toNat ≤ 0x1FF) ∨ 0x380 ≤ a.toNat →
    (s.inputs = .read a n :: rest → step s = .next (s.answeredOnly rest .slverr 0)) ∧
    (s.inputs = .write a n d :: rest → step s = .next (s.answeredOnly rest .slverr 0))

/-- R72: the only width is 32 bits, the only alignment 4.
How an access and its answer stand in State is the model's (`inputs`, `reply`; log 1, log 2). -/
def Obligations.MisalignedAccessIsSlverr : Prop :=
  ∀ (s : State) (a : Addr) (n : Nat) (d : Word) (rest : List Input), n ≠ 32 ∨ a.toNat % 4 ≠ 0 →
    (s.inputs = .read a n :: rest → step s = .next (s.answeredOnly rest .slverr 0)) ∧
    (s.inputs = .write a n d :: rest → step s = .next (s.answeredOnly rest .slverr 0))

/-- R76. That the write sets no `INTSTAT.OVR` while busy either is the model's choice between R76 and D10 (log 11).
How an access and its answer stand in State is the model's (`inputs`, `reply`; log 1, log 2). -/
def Obligations.ReadOnlyRegistersIgnoreWrites : Prop :=
  ∀ (s : State) (a : Addr) (d : Word) (rest : List Input),
    a ∈ [0x000#12, 0x004#12, 0x008#12, 0x010#12, 0x014#12, 0x028#12, 0x02C#12, 0x030#12, 0x034#12] →
    s.inputs = .write a 32 d :: rest → step s = .next (s.answeredOnly rest .okay 0)

/-- R79: the six writes with side effects.
How an access and its answer stand in State is the model's (`inputs`, `reply`; log 1, log 2). -/
def Obligations.WriteSideEffects : Prop :=
  ∀ (s : State) (d : Word) (rest : List Input),
    (s.inputs = .write 0x020#12 32 d :: rest →
      step s = .next { s.answeredOnly rest .okay 0 with inten := d.extractLsb' 0 4 }) ∧
    (s.inputs = .write 0x024#12 32 d :: rest →
      step s = .next { s.answeredOnly rest .okay 0 with intstat := s.intstat &&& ~~~(d.extractLsb' 0 4) }) ∧
    (s.status.busy = false → s.status.fatal = false →
      (s.inputs = .write 0x018#12 32 d :: rest →
        step s = .next { s.answeredOnly rest .okay 0 with
          cmd := d
          status := { busy := true, done := false, err := false, fatal := false, tv := false, t := false }
          errinfo := 0 }) ∧
      (s.inputs = .write 0x00C#12 32 d :: rest →
        (d.getLsbD 0 = true → step s = .next { State.reset with inputs := rest, reply := some ⟨.okay, 0⟩ }) ∧
        (d.getLsbD 0 = false → step s = .next (s.answeredOnly rest .okay 0))) ∧
      (s.inputs = .write 0x01C#12 32 d :: rest →
        step s = .next { s.answeredOnly rest .okay 0 with iolen := d.extractLsb' 0 9 }) ∧
      (∀ j, j < 96 → memWf s.mem = true → s.inputs = .write (BitVec.ofNat 12 (0x200 + 4 * j)) 32 d :: rest →
        ∃ t, step s = .next t ∧ t = { s.answeredOnly rest .okay 0 with mem := t.mem } ∧
          (∀ i, i < 4 → t.byteAt (0x200 + 4 * j + i) = d.extractLsb' (8 * i) 8) ∧
          ∀ a, (∀ i, i < 4 → a ≠ 0x200 + 4 * j + i) → t.byteAt a = s.byteAt a))

/-- R81, R379, R402: while busy, the blocked accesses, and what each of the nine readable registers reads as.
How an access and its answer stand in State is the model's (`inputs`, `reply`; log 1, log 2). -/
def Obligations.AccessesWhileBusy : Prop :=
  ∀ (s : State) (a : Addr) (d : Word) (rest : List Input), s.status.busy = true → s.status.fatal = false →
    (a ∈ [0x01C#12, 0x028#12, 0x02C#12, 0x030#12, 0x034#12] ∨
        (0x200 ≤ a.toNat ∧ a.toNat < 0x380 ∧ a.toNat % 4 = 0) →
      s.inputs = .read a 32 :: rest → step s = .next (s.overrun rest)) ∧
    (a ∈ [0x00C#12, 0x018#12, 0x01C#12] ∨ (0x200 ≤ a.toNat ∧ a.toNat < 0x380 ∧ a.toNat % 4 = 0) →
      s.inputs = .write a 32 d :: rest → step s = .next (s.overrun rest)) ∧
    ∀ c ∈ [(0x000#12, 0x424E5045), (0x004#12, 0x00010000), (0x008#12, 0x00822110), (0x00C#12, 0),
        (0x010#12, 1 + 2 * s.status.done.toNat + 4 * s.status.err.toNat + 16 * s.status.tv.toNat + 32 * s.status.t.toNat),
        (0x014#12, s.errinfo.toNat), (0x018#12, s.cmd.toNat), (0x020#12, s.inten.toNat), (0x024#12, s.intstat.toNat)],
      s.inputs = .read c.1 32 :: rest → ∃ w : Word, step s = .next (s.answeredOnly rest .okay w) ∧ w.toNat = c.2

/-- R82, R379, `60_exceptions.md` R382, R388: while fatal, only `INTEN`, `INTSTAT` and the host's view can change, until a
hardware reset.
How an access and its answer stand in State is the model's (`inputs`, `reply`; log 1, log 2). -/
def Obligations.FatalIsAbsorbing : Prop :=
  ∀ s : State, s.status.fatal = true → s.status.busy = false →
    (∀ (a : Addr) (d : Word) (rest : List Input),
      a ∈ [0x00C#12, 0x018#12, 0x01C#12] ∨ (0x200 ≤ a.toNat ∧ a.toNat < 0x380 ∧ a.toNat % 4 = 0) →
      s.inputs = .write a 32 d :: rest → step s = .next (s.answeredOnly rest .okay 0)) ∧
    (∀ rest, s.inputs = .integrityFailure :: rest → step s = .next { s with inputs := rest }) ∧
    (∀ rest, s.inputs = .hardwareReset :: rest → step s = .next { State.reset with inputs := rest }) ∧
    ((∀ rest, s.inputs ≠ .hardwareReset :: rest) →
      ∃ t, step s = .next t ∧
        t = { s with inten := t.inten, intstat := t.intstat, inputs := t.inputs, reply := t.reply } ∧
        t.intstat &&& s.intstat = t.intstat)

/-- R73: bus lanes are little-endian, in reads and in writes.
How an access and its answer stand in State is the model's (`inputs`, `reply`; log 1, log 2). -/
def Obligations.BusLanesAreLittleEndian : Prop :=
  ∀ (s : State) (j : Nat) (rest : List Input), j < 96 → s.status.busy = false →
    (s.inputs = .read (BitVec.ofNat 12 (0x200 + 4 * j)) 32 :: rest →
      ∃ w : Word, step s = .next (s.answeredOnly rest .okay w) ∧
        (∀ i, i < 4 → w.extractLsb' (8 * i) 8 = s.byteAt (0x200 + 4 * j + i)) ∧
        w.toNat = (s.byteAt (0x200 + 4 * j)).toNat + 256 * (s.byteAt (0x200 + 4 * j + 1)).toNat +
          65536 * (s.byteAt (0x200 + 4 * j + 2)).toNat + 16777216 * (s.byteAt (0x200 + 4 * j + 3)).toNat) ∧
    ∀ d : Word, s.status.fatal = false → memWf s.mem = true → s.inputs = .write (BitVec.ofNat 12 (0x200 + 4 * j)) 32 d :: rest →
      ∃ t, step s = .next t ∧ ∀ i, i < 4 → t.byteAt (0x200 + 4 * j + i) = d.extractLsb' (8 * i) 8

/-- `10_state.md` R41 to R48: what each control register reads as, while idle.
How an access and its answer stand in State is the model's (`inputs`, `reply`; log 1, log 2). -/
def Obligations.RegisterReads : Prop :=
  ∀ (s : State) (rest : List Input), s.status.busy = false → s.l1.length ≤ 8 → s.l2.length ≤ 8 →
    (∀ c ∈ [(0x000#12, 0x424E5045#32), (0x004#12, 0x00010000#32), (0x008#12, 0x00822110#32), (0x00C#12, 0#32)],
      s.inputs = .read c.1 32 :: rest → step s = .next (s.answeredOnly rest .okay c.2)) ∧
    (s.inputs = .read 0x010#12 32 :: rest → ∃ w : Word, step s = .next (s.answeredOnly rest .okay w) ∧
      w.getLsbD 0 = s.status.busy ∧ w.getLsbD 1 = s.status.done ∧ w.getLsbD 2 = s.status.err ∧
      w.getLsbD 3 = s.status.fatal ∧ w.getLsbD 4 = s.status.tv ∧ w.getLsbD 5 = s.status.t ∧ w.toNat < 64) ∧
    (∀ c ∈ [(0x014#12, s.errinfo.toNat), (0x018#12, s.cmd.toNat), (0x01C#12, s.iolen.toNat), (0x020#12, s.inten.toNat),
        (0x024#12, s.intstat.toNat), (0x028#12, s.l1.length + 256 * s.l2.length)],
      s.inputs = .read c.1 32 :: rest → ∃ w : Word, step s = .next (s.answeredOnly rest .okay w) ∧ w.toNat = c.2) ∧
    (∀ c ∈ [(0x02C#12, 0), (0x030#12, 8)], s.inputs = .read c.1 32 :: rest →
      ∃ w : Word, step s = .next (s.answeredOnly rest .okay w) ∧
        ∀ (i : Nat) (v : EVal), i < 8 → s.eregs[c.2 + i]? = some v → (w.extractLsb' (4 * i) 4).toNat = v.tag) ∧
    (s.inputs = .read 0x034#12 32 :: rest → ∃ w : Word, step s = .next (s.answeredOnly rest .okay w) ∧
      (∀ i (r : Option G1Point), s.pregs[i]? = some r → w.getLsbD i = r.isSome) ∧
      (∀ i (r : Option G2Point), s.qregs[i]? = some r → w.getLsbD (8 + i) = r.isSome) ∧
      (∀ i (r : Option (BitVec 256)), s.kregs[i]? = some r → w.getLsbD (16 + i) = r.isSome) ∧ w.toNat < 2 ^ 20)

/-! ## Reset, failure, interrupts, timing -/

/-- `10_state.md` R63: the values after reset, and the invariants hold there. -/
def Obligations.ResetState : Prop :=
  (∀ (i : EIdx) (v : EVal), State.reset.holdsE i v → v = .empty) ∧ (∀ i A, ¬ State.reset.holdsP i A) ∧
  (∀ i A, ¬ State.reset.holdsQ i A) ∧ (∀ i k, ¬ State.reset.holdsK i k) ∧
  State.reset.l1 = [] ∧ State.reset.l2 = [] ∧ (∀ a, State.reset.byteAt a = 0) ∧ State.reset.iolen = 0 ∧
  statusWord State.reset.status = 0 ∧ State.reset.errinfo = 0 ∧ State.reset.cmd = 0 ∧ State.reset.inten = 0 ∧
  State.reset.intstat = 0 ∧ irq State.reset = false ∧ etag0Word State.reset = 0 ∧ etag1Word State.reset = 0 ∧
  vtagWord State.reset = 0 ∧ listcntWord State.reset = 0 ∧
  State.reset.statusLegal ∧ State.reset.storageLegal ∧ State.reset.pointsOnCurve ∧ State.reset.tagsLegal ∧
  State.reset.fatalLegal

/-- `60_exceptions.md` R388, `70_reset_and_hazards.md` R401: the integrity failure and the hardware reset, at any instant.
Events are entries of the model's list `inputs` (log 1). -/
def Obligations.IntegrityFailureAndHardwareReset : Prop :=
  ∀ (s : State) (rest : List Input),
    (s.inputs = .hardwareReset :: rest → step s = .next { State.reset with inputs := rest }) ∧
    (s.inputs = .integrityFailure :: rest → s.status.fatal = false →
      step s = .next
        { eregs := Vector.replicate 16 .empty
          pregs := Vector.replicate 8 none
          qregs := Vector.replicate 8 none
          kregs := Vector.replicate 4 none
          l1 := []
          l2 := []
          mem := []
          iolen := 0
          status := { busy := false, done := true, err := true, fatal := true, tv := false, t := false }
          errinfo := 0x0000FF#24
          cmd := s.cmd
          inten := s.inten
          intstat := s.intstat ||| 7#4
          inputs := rest
          reply := s.reply })

/-- `60_exceptions.md` R376, R377, R378: the line, and the events that set and clear a bit of `INTSTAT`.
Events are entries of the model's list `inputs` (log 1). -/
def Obligations.InterruptBitsAndLine : Prop :=
  (∀ s : State, irq s = true ↔ ∃ b, b < 4 ∧ s.intstat.getLsbD b = true ∧ s.inten.getLsbD b = true) ∧
  ∀ s t : State, step s = .next t →
    (∀ b, b < 4 → s.intstat.getLsbD b = true → t.intstat.getLsbD b = false →
      ∃ ev rest, s.inputs = ev :: rest ∧
        (ev = .hardwareReset ∨ (∃ d, ev = .write 0x024#12 32 d ∧ d.getLsbD b = true) ∨
          ∃ d, ev = .write 0x00C#12 32 d ∧ d.getLsbD 0 = true ∧ s.status.busy = false ∧ s.status.fatal = false)) ∧
    (∀ b, b < 4 → s.intstat.getLsbD b = false → t.intstat.getLsbD b = true →
      (∃ rest, s.inputs = .integrityFailure :: rest ∧ b < 3) ∨
      (s.status.busy = true ∧ (s.inputs = [] ∨ ∃ rest, s.inputs = .engine :: rest) ∧ (b = 0 ∨ (b = 1 ∧ t.status.err = true))) ∨
      (s.status.busy = true ∧ b = 3 ∧
        ∃ a n rest, s.inputs = .read a n :: rest ∨ ∃ d, s.inputs = .write a n d :: rest))

/-- `43_scalar_mult.md` R266, `70_reset_and_hazards.md` R417, `10_state.md` R64: no value reaches the timing or the status. From
two states that differ at most in the values held, a command whose row names no exception that depends on a value (`G1.SMUL`,
`G2.SMUL` and `GT.EXP` among them) completes with the same tags, valid bits, lengths and control registers, but for the truth
flag of a predicate, and after the same time; so its outcome is normal in both or the same exception in both. A command that
completes normally takes the same time in every state that runs its opcode, but for `PC.RUN` at different list lengths.
The latency is the model's function over the opaque `LAT` (log 4) and over an open time of a command that raises (log 12, for
lists of different lengths log 13). -/
def Obligations.ValuesDoNotReachStatusOrTiming : Prop :=
  (∀ (i : Instr) (s t : State), (commandFacts i).raisesByKindOnly → s.sameKinds t →
    ∃ s' t', exec i s = .next s' ∧ exec i t = .next t' ∧
      s'.sameKinds { t' with status := { t'.status with t := s'.status.t } } ∧
      ((commandFacts i).test = false → s'.status.t = t'.status.t)) ∧
  (∀ (i : Instr) (s t : State), decode s.cmd = .ok i → (commandFacts i).raisesByKindOnly → s.sameKinds t →
    latency s = latency t) ∧
  ∀ s1 s2 t1 t2 : State, completeCommand s1 = .next t1 → completeCommand s2 = .next t2 →
    t1.status.err = false → t2.status.err = false → s1.cmd.extractLsb' 24 8 = s2.cmd.extractLsb' 24 8 →
    (s1.cmd.extractLsb' 24 8 ≠ 0xA3#8 ∨ s1.l1.length = s2.l1.length → latency s1 = latency s2) ∧ 0 < latency s1

/-! ## Invariants of every step -/

/-- `10_state.md` R41, R42, `60_exceptions.md` R388. -/
def Obligations.StatusStaysLegal : Prop :=
  ∀ s t : State, s.statusLegal → s.fatalLegal → step s = .next t → t.statusLegal ∧ t.fatalLegal

/-- `10_state.md` R37, R38: canonical buffer (the model's representation, log 10) and bounded lists. -/
def Obligations.StorageStaysLegal : Prop :=
  ∀ s t : State, s.storageLegal → step s = .next t → t.storageLegal

/-- `10_state.md` R27: every valid point is on its curve. -/
def Obligations.PointsStayOnCurve : Prop :=
  ∀ s t : State, s.pointsOnCurve → step s = .next t → t.pointsOnCurve

/-- `10_state.md` R34: `GT` values have order dividing `r`, `MLO` values are not zero. -/
def Obligations.TagsStayLegal : Prop :=
  ∀ s t : State, s.pointsOnCurve → s.tagsLegal → step s = .next t → t.tagsLegal
end

