-- ==== Sys2Proof/Laws/Codec.lean ====
section
/-! SUPPORT. The lengths of the encodings (`46_point_encoding.md` R310 to R318), and the big-endian integer of a byte string. -/

namespace Sys2Proof.Machine

theorem beBytes_length (n v : Nat) : (beBytes n v).length = n := by
  induction n with
  | zero => rfl
  | succ n ih => simp [beBytes, ih]

theorem encFp_length (a : Fp) : (encFp a).length = 32 := beBytes_length _ _

theorem encFp2_length (a : Fp2) : (encFp2 a).length = 64 := by simp [encFp2, encFp_length]

theorem encFp6_length (a : Fp6) : (encFp6 a).length = 192 := by simp [encFp6, encFp2_length]

theorem encFp12_length (a : Fp12) : (encFp12 a).length = 384 := by simp [encFp12, encFp6_length]

theorem encG1_length (A : G1Point) : (encG1 A).length = 64 := by
  cases A <;> simp [encG1, encFp_length, zeros]

theorem encG1C_length (A : G1Point) : (encG1C A).length = 32 := by
  cases A <;> simp [encG1C, be32, beBytes_length, zeros]

theorem encG2_length (A : G2Point) : (encG2 A).length = 128 := by
  cases A <;> simp [encG2, encFp2_length, zeros]

theorem putSign_length (S : Nat) (B : List Byte) : (putSign S B).length = B.length := by
  cases B <;> simp [putSign]

theorem encG2C_length (A : G2Point) : (encG2C A).length = 64 := by
  cases A <;> simp [encG2C, putSign_length, encFp2_length, zeros]

/-- `be` of a string is its first byte times the weight of its place, plus `be` of the rest. -/
theorem be_cons (b : Byte) (B : List Byte) : be (b :: B) = b.toNat * 256 ^ B.length + be B := by
  have h : ∀ (B : List Byte) (x : Nat), B.foldl (fun acc b => acc * 256 + b.toNat) x =
      x * 256 ^ B.length + B.foldl (fun acc b => acc * 256 + b.toNat) 0 := by
    intro B
    induction B with
    | nil => simp
    | cons c B ih =>
      intro x
      simp only [List.foldl_cons, List.length_cons]
      rw [ih (x * 256 + c.toNat), ih (0 * 256 + c.toNat)]
      ring
  unfold be
  simp only [List.foldl_cons]
  rw [h]
  simp

end Sys2Proof.Machine
end

