-- ==== Sys2Proof/Laws/Encoding.lean ====
section
/-! SUPPORT. The fields of a packed command word (`30_encoding.md` R101, R105). -/

namespace Sys2Proof

/-- A bit of a packed word, by the field it falls in. -/
theorem getLsbD_pack (o : BitVec 8) (rd ra rb : RegIdx) (j : Nat) :
    (pack o rd ra rb).getLsbD j =
      if j < 12 then false else if j < 16 then rb.getLsbD (j - 12) else if j < 20 then ra.getLsbD (j - 16)
      else if j < 24 then rd.getLsbD (j - 20) else o.getLsbD (j - 24) := by
  unfold pack
  simp only [BitVec.getLsbD_append, BitVec.getLsbD_zero]
  repeat' split
  all_goals first | rfl | (exfalso; omega)

theorem opcodeField_pack (o : BitVec 8) (rd ra rb : RegIdx) : opcodeField (pack o rd ra rb) = o := by
  unfold opcodeField
  ext i hi
  rw [BitVec.getElem_extractLsb', getLsbD_pack]
  simp only [← BitVec.getLsbD_eq_getElem]
  repeat' split
  all_goals first | (exfalso; omega) | (congr 1; omega)

theorem rdField_pack (o : BitVec 8) (rd ra rb : RegIdx) : rdField (pack o rd ra rb) = rd := by
  unfold rdField
  ext i hi
  rw [BitVec.getElem_extractLsb', getLsbD_pack]
  simp only [← BitVec.getLsbD_eq_getElem]
  repeat' split
  all_goals first | (exfalso; omega) | (congr 1; omega)

theorem raField_pack (o : BitVec 8) (rd ra rb : RegIdx) : raField (pack o rd ra rb) = ra := by
  unfold raField
  ext i hi
  rw [BitVec.getElem_extractLsb', getLsbD_pack]
  simp only [← BitVec.getLsbD_eq_getElem]
  repeat' split
  all_goals first | (exfalso; omega) | (congr 1; omega)

theorem rbField_pack (o : BitVec 8) (rd ra rb : RegIdx) : rbField (pack o rd ra rb) = rb := by
  unfold rbField
  ext i hi
  rw [BitVec.getElem_extractLsb', getLsbD_pack]
  simp only [← BitVec.getLsbD_eq_getElem]
  repeat' split
  all_goals first | (exfalso; omega) | (congr 1; omega)

theorem zeroField_pack (o : BitVec 8) (rd ra rb : RegIdx) : zeroField (pack o rd ra rb) = 0 := by
  unfold zeroField
  ext i hi
  rw [BitVec.getElem_extractLsb', getLsbD_pack]
  simp only [← BitVec.getLsbD_eq_getElem]
  repeat' split
  all_goals first | (exfalso; omega) | simp

end Sys2Proof
end

