-- ==== Sys2Proof/Laws/State.lean ====
section
/-! SUPPORT. One lemma per field of the state and per update of `Machine/Ops.lean`, so that no proof unfolds a record update.
The updates `hardReset` and `integrityFail` are whole states and have their equations at the end. -/

namespace Sys2Proof.Machine

/-! ## `State.setE` -/

@[simp] theorem State.setE_eregs (s : State) (i : Fin Config.NE) (v : EVal) : (s.setE i v).eregs = s.eregs.set i v := rfl
@[simp] theorem State.setE_pregs (s : State) (i : Fin Config.NE) (v : EVal) : (s.setE i v).pregs = s.pregs := rfl
@[simp] theorem State.setE_qregs (s : State) (i : Fin Config.NE) (v : EVal) : (s.setE i v).qregs = s.qregs := rfl
@[simp] theorem State.setE_kregs (s : State) (i : Fin Config.NE) (v : EVal) : (s.setE i v).kregs = s.kregs := rfl
@[simp] theorem State.setE_l1 (s : State) (i : Fin Config.NE) (v : EVal) : (s.setE i v).l1 = s.l1 := rfl
@[simp] theorem State.setE_l2 (s : State) (i : Fin Config.NE) (v : EVal) : (s.setE i v).l2 = s.l2 := rfl
@[simp] theorem State.setE_mem (s : State) (i : Fin Config.NE) (v : EVal) : (s.setE i v).mem = s.mem := rfl
@[simp] theorem State.setE_iolen (s : State) (i : Fin Config.NE) (v : EVal) : (s.setE i v).iolen = s.iolen := rfl
@[simp] theorem State.setE_status (s : State) (i : Fin Config.NE) (v : EVal) : (s.setE i v).status = s.status := rfl
@[simp] theorem State.setE_errinfo (s : State) (i : Fin Config.NE) (v : EVal) : (s.setE i v).errinfo = s.errinfo := rfl
@[simp] theorem State.setE_cmd (s : State) (i : Fin Config.NE) (v : EVal) : (s.setE i v).cmd = s.cmd := rfl
@[simp] theorem State.setE_inten (s : State) (i : Fin Config.NE) (v : EVal) : (s.setE i v).inten = s.inten := rfl
@[simp] theorem State.setE_intstat (s : State) (i : Fin Config.NE) (v : EVal) : (s.setE i v).intstat = s.intstat := rfl
@[simp] theorem State.setE_inputs (s : State) (i : Fin Config.NE) (v : EVal) : (s.setE i v).inputs = s.inputs := rfl
@[simp] theorem State.setE_reply (s : State) (i : Fin Config.NE) (v : EVal) : (s.setE i v).reply = s.reply := rfl

/-! ## `State.setP` -/

@[simp] theorem State.setP_eregs (s : State) (i : Fin Config.NP) (A : G1Point) : (s.setP i A).eregs = s.eregs := rfl
@[simp] theorem State.setP_pregs (s : State) (i : Fin Config.NP) (A : G1Point) : (s.setP i A).pregs = s.pregs.set i (some A) := rfl
@[simp] theorem State.setP_qregs (s : State) (i : Fin Config.NP) (A : G1Point) : (s.setP i A).qregs = s.qregs := rfl
@[simp] theorem State.setP_kregs (s : State) (i : Fin Config.NP) (A : G1Point) : (s.setP i A).kregs = s.kregs := rfl
@[simp] theorem State.setP_l1 (s : State) (i : Fin Config.NP) (A : G1Point) : (s.setP i A).l1 = s.l1 := rfl
@[simp] theorem State.setP_l2 (s : State) (i : Fin Config.NP) (A : G1Point) : (s.setP i A).l2 = s.l2 := rfl
@[simp] theorem State.setP_mem (s : State) (i : Fin Config.NP) (A : G1Point) : (s.setP i A).mem = s.mem := rfl
@[simp] theorem State.setP_iolen (s : State) (i : Fin Config.NP) (A : G1Point) : (s.setP i A).iolen = s.iolen := rfl
@[simp] theorem State.setP_status (s : State) (i : Fin Config.NP) (A : G1Point) : (s.setP i A).status = s.status := rfl
@[simp] theorem State.setP_errinfo (s : State) (i : Fin Config.NP) (A : G1Point) : (s.setP i A).errinfo = s.errinfo := rfl
@[simp] theorem State.setP_cmd (s : State) (i : Fin Config.NP) (A : G1Point) : (s.setP i A).cmd = s.cmd := rfl
@[simp] theorem State.setP_inten (s : State) (i : Fin Config.NP) (A : G1Point) : (s.setP i A).inten = s.inten := rfl
@[simp] theorem State.setP_intstat (s : State) (i : Fin Config.NP) (A : G1Point) : (s.setP i A).intstat = s.intstat := rfl
@[simp] theorem State.setP_inputs (s : State) (i : Fin Config.NP) (A : G1Point) : (s.setP i A).inputs = s.inputs := rfl
@[simp] theorem State.setP_reply (s : State) (i : Fin Config.NP) (A : G1Point) : (s.setP i A).reply = s.reply := rfl

/-! ## `State.setQ` -/

@[simp] theorem State.setQ_eregs (s : State) (i : Fin Config.NQ) (A : G2Point) : (s.setQ i A).eregs = s.eregs := rfl
@[simp] theorem State.setQ_pregs (s : State) (i : Fin Config.NQ) (A : G2Point) : (s.setQ i A).pregs = s.pregs := rfl
@[simp] theorem State.setQ_qregs (s : State) (i : Fin Config.NQ) (A : G2Point) : (s.setQ i A).qregs = s.qregs.set i (some A) := rfl
@[simp] theorem State.setQ_kregs (s : State) (i : Fin Config.NQ) (A : G2Point) : (s.setQ i A).kregs = s.kregs := rfl
@[simp] theorem State.setQ_l1 (s : State) (i : Fin Config.NQ) (A : G2Point) : (s.setQ i A).l1 = s.l1 := rfl
@[simp] theorem State.setQ_l2 (s : State) (i : Fin Config.NQ) (A : G2Point) : (s.setQ i A).l2 = s.l2 := rfl
@[simp] theorem State.setQ_mem (s : State) (i : Fin Config.NQ) (A : G2Point) : (s.setQ i A).mem = s.mem := rfl
@[simp] theorem State.setQ_iolen (s : State) (i : Fin Config.NQ) (A : G2Point) : (s.setQ i A).iolen = s.iolen := rfl
@[simp] theorem State.setQ_status (s : State) (i : Fin Config.NQ) (A : G2Point) : (s.setQ i A).status = s.status := rfl
@[simp] theorem State.setQ_errinfo (s : State) (i : Fin Config.NQ) (A : G2Point) : (s.setQ i A).errinfo = s.errinfo := rfl
@[simp] theorem State.setQ_cmd (s : State) (i : Fin Config.NQ) (A : G2Point) : (s.setQ i A).cmd = s.cmd := rfl
@[simp] theorem State.setQ_inten (s : State) (i : Fin Config.NQ) (A : G2Point) : (s.setQ i A).inten = s.inten := rfl
@[simp] theorem State.setQ_intstat (s : State) (i : Fin Config.NQ) (A : G2Point) : (s.setQ i A).intstat = s.intstat := rfl
@[simp] theorem State.setQ_inputs (s : State) (i : Fin Config.NQ) (A : G2Point) : (s.setQ i A).inputs = s.inputs := rfl
@[simp] theorem State.setQ_reply (s : State) (i : Fin Config.NQ) (A : G2Point) : (s.setQ i A).reply = s.reply := rfl

/-! ## `State.setK` -/

@[simp] theorem State.setK_eregs (s : State) (i : Fin Config.NK) (k : Option (BitVec 256)) : (s.setK i k).eregs = s.eregs := rfl
@[simp] theorem State.setK_pregs (s : State) (i : Fin Config.NK) (k : Option (BitVec 256)) : (s.setK i k).pregs = s.pregs := rfl
@[simp] theorem State.setK_qregs (s : State) (i : Fin Config.NK) (k : Option (BitVec 256)) : (s.setK i k).qregs = s.qregs := rfl
@[simp] theorem State.setK_kregs (s : State) (i : Fin Config.NK) (k : Option (BitVec 256)) : (s.setK i k).kregs = s.kregs.set i k := rfl
@[simp] theorem State.setK_l1 (s : State) (i : Fin Config.NK) (k : Option (BitVec 256)) : (s.setK i k).l1 = s.l1 := rfl
@[simp] theorem State.setK_l2 (s : State) (i : Fin Config.NK) (k : Option (BitVec 256)) : (s.setK i k).l2 = s.l2 := rfl
@[simp] theorem State.setK_mem (s : State) (i : Fin Config.NK) (k : Option (BitVec 256)) : (s.setK i k).mem = s.mem := rfl
@[simp] theorem State.setK_iolen (s : State) (i : Fin Config.NK) (k : Option (BitVec 256)) : (s.setK i k).iolen = s.iolen := rfl
@[simp] theorem State.setK_status (s : State) (i : Fin Config.NK) (k : Option (BitVec 256)) : (s.setK i k).status = s.status := rfl
@[simp] theorem State.setK_errinfo (s : State) (i : Fin Config.NK) (k : Option (BitVec 256)) : (s.setK i k).errinfo = s.errinfo := rfl
@[simp] theorem State.setK_cmd (s : State) (i : Fin Config.NK) (k : Option (BitVec 256)) : (s.setK i k).cmd = s.cmd := rfl
@[simp] theorem State.setK_inten (s : State) (i : Fin Config.NK) (k : Option (BitVec 256)) : (s.setK i k).inten = s.inten := rfl
@[simp] theorem State.setK_intstat (s : State) (i : Fin Config.NK) (k : Option (BitVec 256)) : (s.setK i k).intstat = s.intstat := rfl
@[simp] theorem State.setK_inputs (s : State) (i : Fin Config.NK) (k : Option (BitVec 256)) : (s.setK i k).inputs = s.inputs := rfl
@[simp] theorem State.setK_reply (s : State) (i : Fin Config.NK) (k : Option (BitVec 256)) : (s.setK i k).reply = s.reply := rfl

/-! ## `State.setLists` -/

@[simp] theorem State.setLists_eregs (s : State) (a : List G1Point) (b : List G2Point) : (s.setLists a b).eregs = s.eregs := rfl
@[simp] theorem State.setLists_pregs (s : State) (a : List G1Point) (b : List G2Point) : (s.setLists a b).pregs = s.pregs := rfl
@[simp] theorem State.setLists_qregs (s : State) (a : List G1Point) (b : List G2Point) : (s.setLists a b).qregs = s.qregs := rfl
@[simp] theorem State.setLists_kregs (s : State) (a : List G1Point) (b : List G2Point) : (s.setLists a b).kregs = s.kregs := rfl
@[simp] theorem State.setLists_l1 (s : State) (a : List G1Point) (b : List G2Point) : (s.setLists a b).l1 = a := rfl
@[simp] theorem State.setLists_l2 (s : State) (a : List G1Point) (b : List G2Point) : (s.setLists a b).l2 = b := rfl
@[simp] theorem State.setLists_mem (s : State) (a : List G1Point) (b : List G2Point) : (s.setLists a b).mem = s.mem := rfl
@[simp] theorem State.setLists_iolen (s : State) (a : List G1Point) (b : List G2Point) : (s.setLists a b).iolen = s.iolen := rfl
@[simp] theorem State.setLists_status (s : State) (a : List G1Point) (b : List G2Point) : (s.setLists a b).status = s.status := rfl
@[simp] theorem State.setLists_errinfo (s : State) (a : List G1Point) (b : List G2Point) : (s.setLists a b).errinfo = s.errinfo := rfl
@[simp] theorem State.setLists_cmd (s : State) (a : List G1Point) (b : List G2Point) : (s.setLists a b).cmd = s.cmd := rfl
@[simp] theorem State.setLists_inten (s : State) (a : List G1Point) (b : List G2Point) : (s.setLists a b).inten = s.inten := rfl
@[simp] theorem State.setLists_intstat (s : State) (a : List G1Point) (b : List G2Point) : (s.setLists a b).intstat = s.intstat := rfl
@[simp] theorem State.setLists_inputs (s : State) (a : List G1Point) (b : List G2Point) : (s.setLists a b).inputs = s.inputs := rfl
@[simp] theorem State.setLists_reply (s : State) (a : List G1Point) (b : List G2Point) : (s.setLists a b).reply = s.reply := rfl

/-! ## `State.setT` -/

@[simp] theorem State.setT_eregs (s : State) (b : Bool) : (s.setT b).eregs = s.eregs := rfl
@[simp] theorem State.setT_pregs (s : State) (b : Bool) : (s.setT b).pregs = s.pregs := rfl
@[simp] theorem State.setT_qregs (s : State) (b : Bool) : (s.setT b).qregs = s.qregs := rfl
@[simp] theorem State.setT_kregs (s : State) (b : Bool) : (s.setT b).kregs = s.kregs := rfl
@[simp] theorem State.setT_l1 (s : State) (b : Bool) : (s.setT b).l1 = s.l1 := rfl
@[simp] theorem State.setT_l2 (s : State) (b : Bool) : (s.setT b).l2 = s.l2 := rfl
@[simp] theorem State.setT_mem (s : State) (b : Bool) : (s.setT b).mem = s.mem := rfl
@[simp] theorem State.setT_iolen (s : State) (b : Bool) : (s.setT b).iolen = s.iolen := rfl
@[simp] theorem State.setT_status (s : State) (b : Bool) : (s.setT b).status = { s.status with tv := true, t := b } := rfl
@[simp] theorem State.setT_errinfo (s : State) (b : Bool) : (s.setT b).errinfo = s.errinfo := rfl
@[simp] theorem State.setT_cmd (s : State) (b : Bool) : (s.setT b).cmd = s.cmd := rfl
@[simp] theorem State.setT_inten (s : State) (b : Bool) : (s.setT b).inten = s.inten := rfl
@[simp] theorem State.setT_intstat (s : State) (b : Bool) : (s.setT b).intstat = s.intstat := rfl
@[simp] theorem State.setT_inputs (s : State) (b : Bool) : (s.setT b).inputs = s.inputs := rfl
@[simp] theorem State.setT_reply (s : State) (b : Bool) : (s.setT b).reply = s.reply := rfl

/-! ## `State.setIo` -/

@[simp] theorem State.setIo_eregs (s : State) (m : List Host.Cell) (n : BitVec 9) : (s.setIo m n).eregs = s.eregs := rfl
@[simp] theorem State.setIo_pregs (s : State) (m : List Host.Cell) (n : BitVec 9) : (s.setIo m n).pregs = s.pregs := rfl
@[simp] theorem State.setIo_qregs (s : State) (m : List Host.Cell) (n : BitVec 9) : (s.setIo m n).qregs = s.qregs := rfl
@[simp] theorem State.setIo_kregs (s : State) (m : List Host.Cell) (n : BitVec 9) : (s.setIo m n).kregs = s.kregs := rfl
@[simp] theorem State.setIo_l1 (s : State) (m : List Host.Cell) (n : BitVec 9) : (s.setIo m n).l1 = s.l1 := rfl
@[simp] theorem State.setIo_l2 (s : State) (m : List Host.Cell) (n : BitVec 9) : (s.setIo m n).l2 = s.l2 := rfl
@[simp] theorem State.setIo_mem (s : State) (m : List Host.Cell) (n : BitVec 9) : (s.setIo m n).mem = m := rfl
@[simp] theorem State.setIo_iolen (s : State) (m : List Host.Cell) (n : BitVec 9) : (s.setIo m n).iolen = n := rfl
@[simp] theorem State.setIo_status (s : State) (m : List Host.Cell) (n : BitVec 9) : (s.setIo m n).status = s.status := rfl
@[simp] theorem State.setIo_errinfo (s : State) (m : List Host.Cell) (n : BitVec 9) : (s.setIo m n).errinfo = s.errinfo := rfl
@[simp] theorem State.setIo_cmd (s : State) (m : List Host.Cell) (n : BitVec 9) : (s.setIo m n).cmd = s.cmd := rfl
@[simp] theorem State.setIo_inten (s : State) (m : List Host.Cell) (n : BitVec 9) : (s.setIo m n).inten = s.inten := rfl
@[simp] theorem State.setIo_intstat (s : State) (m : List Host.Cell) (n : BitVec 9) : (s.setIo m n).intstat = s.intstat := rfl
@[simp] theorem State.setIo_inputs (s : State) (m : List Host.Cell) (n : BitVec 9) : (s.setIo m n).inputs = s.inputs := rfl
@[simp] theorem State.setIo_reply (s : State) (m : List Host.Cell) (n : BitVec 9) : (s.setIo m n).reply = s.reply := rfl

/-! ## `State.setInt` -/

@[simp] theorem State.setInt_eregs (s : State) (b : BitVec 4) : (s.setInt b).eregs = s.eregs := rfl
@[simp] theorem State.setInt_pregs (s : State) (b : BitVec 4) : (s.setInt b).pregs = s.pregs := rfl
@[simp] theorem State.setInt_qregs (s : State) (b : BitVec 4) : (s.setInt b).qregs = s.qregs := rfl
@[simp] theorem State.setInt_kregs (s : State) (b : BitVec 4) : (s.setInt b).kregs = s.kregs := rfl
@[simp] theorem State.setInt_l1 (s : State) (b : BitVec 4) : (s.setInt b).l1 = s.l1 := rfl
@[simp] theorem State.setInt_l2 (s : State) (b : BitVec 4) : (s.setInt b).l2 = s.l2 := rfl
@[simp] theorem State.setInt_mem (s : State) (b : BitVec 4) : (s.setInt b).mem = s.mem := rfl
@[simp] theorem State.setInt_iolen (s : State) (b : BitVec 4) : (s.setInt b).iolen = s.iolen := rfl
@[simp] theorem State.setInt_status (s : State) (b : BitVec 4) : (s.setInt b).status = s.status := rfl
@[simp] theorem State.setInt_errinfo (s : State) (b : BitVec 4) : (s.setInt b).errinfo = s.errinfo := rfl
@[simp] theorem State.setInt_cmd (s : State) (b : BitVec 4) : (s.setInt b).cmd = s.cmd := rfl
@[simp] theorem State.setInt_inten (s : State) (b : BitVec 4) : (s.setInt b).inten = s.inten := rfl
@[simp] theorem State.setInt_intstat (s : State) (b : BitVec 4) : (s.setInt b).intstat = s.intstat ||| b := rfl
@[simp] theorem State.setInt_inputs (s : State) (b : BitVec 4) : (s.setInt b).inputs = s.inputs := rfl
@[simp] theorem State.setInt_reply (s : State) (b : BitVec 4) : (s.setInt b).reply = s.reply := rfl

/-! ## `State.setReply` -/

@[simp] theorem State.setReply_eregs (s : State) (r : BusReply) : (s.setReply r).eregs = s.eregs := rfl
@[simp] theorem State.setReply_pregs (s : State) (r : BusReply) : (s.setReply r).pregs = s.pregs := rfl
@[simp] theorem State.setReply_qregs (s : State) (r : BusReply) : (s.setReply r).qregs = s.qregs := rfl
@[simp] theorem State.setReply_kregs (s : State) (r : BusReply) : (s.setReply r).kregs = s.kregs := rfl
@[simp] theorem State.setReply_l1 (s : State) (r : BusReply) : (s.setReply r).l1 = s.l1 := rfl
@[simp] theorem State.setReply_l2 (s : State) (r : BusReply) : (s.setReply r).l2 = s.l2 := rfl
@[simp] theorem State.setReply_mem (s : State) (r : BusReply) : (s.setReply r).mem = s.mem := rfl
@[simp] theorem State.setReply_iolen (s : State) (r : BusReply) : (s.setReply r).iolen = s.iolen := rfl
@[simp] theorem State.setReply_status (s : State) (r : BusReply) : (s.setReply r).status = s.status := rfl
@[simp] theorem State.setReply_errinfo (s : State) (r : BusReply) : (s.setReply r).errinfo = s.errinfo := rfl
@[simp] theorem State.setReply_cmd (s : State) (r : BusReply) : (s.setReply r).cmd = s.cmd := rfl
@[simp] theorem State.setReply_inten (s : State) (r : BusReply) : (s.setReply r).inten = s.inten := rfl
@[simp] theorem State.setReply_intstat (s : State) (r : BusReply) : (s.setReply r).intstat = s.intstat := rfl
@[simp] theorem State.setReply_inputs (s : State) (r : BusReply) : (s.setReply r).inputs = s.inputs := rfl
@[simp] theorem State.setReply_reply (s : State) (r : BusReply) : (s.setReply r).reply = some r := rfl

/-! ## `State.setInputs` -/

@[simp] theorem State.setInputs_eregs (s : State) (evs : List Input) : (s.setInputs evs).eregs = s.eregs := rfl
@[simp] theorem State.setInputs_pregs (s : State) (evs : List Input) : (s.setInputs evs).pregs = s.pregs := rfl
@[simp] theorem State.setInputs_qregs (s : State) (evs : List Input) : (s.setInputs evs).qregs = s.qregs := rfl
@[simp] theorem State.setInputs_kregs (s : State) (evs : List Input) : (s.setInputs evs).kregs = s.kregs := rfl
@[simp] theorem State.setInputs_l1 (s : State) (evs : List Input) : (s.setInputs evs).l1 = s.l1 := rfl
@[simp] theorem State.setInputs_l2 (s : State) (evs : List Input) : (s.setInputs evs).l2 = s.l2 := rfl
@[simp] theorem State.setInputs_mem (s : State) (evs : List Input) : (s.setInputs evs).mem = s.mem := rfl
@[simp] theorem State.setInputs_iolen (s : State) (evs : List Input) : (s.setInputs evs).iolen = s.iolen := rfl
@[simp] theorem State.setInputs_status (s : State) (evs : List Input) : (s.setInputs evs).status = s.status := rfl
@[simp] theorem State.setInputs_errinfo (s : State) (evs : List Input) : (s.setInputs evs).errinfo = s.errinfo := rfl
@[simp] theorem State.setInputs_cmd (s : State) (evs : List Input) : (s.setInputs evs).cmd = s.cmd := rfl
@[simp] theorem State.setInputs_inten (s : State) (evs : List Input) : (s.setInputs evs).inten = s.inten := rfl
@[simp] theorem State.setInputs_intstat (s : State) (evs : List Input) : (s.setInputs evs).intstat = s.intstat := rfl
@[simp] theorem State.setInputs_inputs (s : State) (evs : List Input) : (s.setInputs evs).inputs = evs := rfl
@[simp] theorem State.setInputs_reply (s : State) (evs : List Input) : (s.setInputs evs).reply = s.reply := rfl

/-! ## `State.erase` -/

@[simp] theorem State.erase_eregs (s : State) : s.erase.eregs = Vector.replicate Config.NE .empty := rfl
@[simp] theorem State.erase_pregs (s : State) : s.erase.pregs = Vector.replicate Config.NP none := rfl
@[simp] theorem State.erase_qregs (s : State) : s.erase.qregs = Vector.replicate Config.NQ none := rfl
@[simp] theorem State.erase_kregs (s : State) : s.erase.kregs = Vector.replicate Config.NK none := rfl
@[simp] theorem State.erase_l1 (s : State) : s.erase.l1 = [] := rfl
@[simp] theorem State.erase_l2 (s : State) : s.erase.l2 = [] := rfl
@[simp] theorem State.erase_mem (s : State) : s.erase.mem = [] := rfl
@[simp] theorem State.erase_iolen (s : State) : s.erase.iolen = 0 := rfl
@[simp] theorem State.erase_status (s : State) : s.erase.status = s.status := rfl
@[simp] theorem State.erase_errinfo (s : State) : s.erase.errinfo = s.errinfo := rfl
@[simp] theorem State.erase_cmd (s : State) : s.erase.cmd = s.cmd := rfl
@[simp] theorem State.erase_inten (s : State) : s.erase.inten = s.inten := rfl
@[simp] theorem State.erase_intstat (s : State) : s.erase.intstat = s.intstat := rfl
@[simp] theorem State.erase_inputs (s : State) : s.erase.inputs = s.inputs := rfl
@[simp] theorem State.erase_reply (s : State) : s.erase.reply = s.reply := rfl

/-! ## `State.accept` -/

@[simp] theorem State.accept_eregs (s : State) (w : Word) : (s.accept w).eregs = s.eregs := rfl
@[simp] theorem State.accept_pregs (s : State) (w : Word) : (s.accept w).pregs = s.pregs := rfl
@[simp] theorem State.accept_qregs (s : State) (w : Word) : (s.accept w).qregs = s.qregs := rfl
@[simp] theorem State.accept_kregs (s : State) (w : Word) : (s.accept w).kregs = s.kregs := rfl
@[simp] theorem State.accept_l1 (s : State) (w : Word) : (s.accept w).l1 = s.l1 := rfl
@[simp] theorem State.accept_l2 (s : State) (w : Word) : (s.accept w).l2 = s.l2 := rfl
@[simp] theorem State.accept_mem (s : State) (w : Word) : (s.accept w).mem = s.mem := rfl
@[simp] theorem State.accept_iolen (s : State) (w : Word) : (s.accept w).iolen = s.iolen := rfl
@[simp] theorem State.accept_status (s : State) (w : Word) : (s.accept w).status = { s.status with busy := true, done := false, err := false, tv := false, t := false } := rfl
@[simp] theorem State.accept_errinfo (s : State) (w : Word) : (s.accept w).errinfo = 0 := rfl
@[simp] theorem State.accept_cmd (s : State) (w : Word) : (s.accept w).cmd = w := rfl
@[simp] theorem State.accept_inten (s : State) (w : Word) : (s.accept w).inten = s.inten := rfl
@[simp] theorem State.accept_intstat (s : State) (w : Word) : (s.accept w).intstat = s.intstat := rfl
@[simp] theorem State.accept_inputs (s : State) (w : Word) : (s.accept w).inputs = s.inputs := rfl
@[simp] theorem State.accept_reply (s : State) (w : Word) : (s.accept w).reply = s.reply := rfl

/-! ## `State.completed` -/

@[simp] theorem State.completed_eregs (s : State) : s.completed.eregs = s.eregs := rfl
@[simp] theorem State.completed_pregs (s : State) : s.completed.pregs = s.pregs := rfl
@[simp] theorem State.completed_qregs (s : State) : s.completed.qregs = s.qregs := rfl
@[simp] theorem State.completed_kregs (s : State) : s.completed.kregs = s.kregs := rfl
@[simp] theorem State.completed_l1 (s : State) : s.completed.l1 = s.l1 := rfl
@[simp] theorem State.completed_l2 (s : State) : s.completed.l2 = s.l2 := rfl
@[simp] theorem State.completed_mem (s : State) : s.completed.mem = s.mem := rfl
@[simp] theorem State.completed_iolen (s : State) : s.completed.iolen = s.iolen := rfl
@[simp] theorem State.completed_status (s : State) : s.completed.status = { s.status with busy := false, done := true } := rfl
@[simp] theorem State.completed_errinfo (s : State) : s.completed.errinfo = s.errinfo := rfl
@[simp] theorem State.completed_cmd (s : State) : s.completed.cmd = s.cmd := rfl
@[simp] theorem State.completed_inten (s : State) : s.completed.inten = s.inten := rfl
@[simp] theorem State.completed_intstat (s : State) : s.completed.intstat = s.intstat ||| intDone := rfl
@[simp] theorem State.completed_inputs (s : State) : s.completed.inputs = s.inputs := rfl
@[simp] theorem State.completed_reply (s : State) : s.completed.reply = s.reply := rfl

/-! ## `State.raised` -/

@[simp] theorem State.raised_eregs (s : State) (x : Exn) : (s.raised x).eregs = s.eregs := rfl
@[simp] theorem State.raised_pregs (s : State) (x : Exn) : (s.raised x).pregs = s.pregs := rfl
@[simp] theorem State.raised_qregs (s : State) (x : Exn) : (s.raised x).qregs = s.qregs := rfl
@[simp] theorem State.raised_kregs (s : State) (x : Exn) : (s.raised x).kregs = s.kregs := rfl
@[simp] theorem State.raised_l1 (s : State) (x : Exn) : (s.raised x).l1 = s.l1 := rfl
@[simp] theorem State.raised_l2 (s : State) (x : Exn) : (s.raised x).l2 = s.l2 := rfl
@[simp] theorem State.raised_mem (s : State) (x : Exn) : (s.raised x).mem = s.mem := rfl
@[simp] theorem State.raised_iolen (s : State) (x : Exn) : (s.raised x).iolen = s.iolen := rfl
@[simp] theorem State.raised_status (s : State) (x : Exn) : (s.raised x).status = { s.status with busy := false, done := true, err := true } := rfl
@[simp] theorem State.raised_errinfo (s : State) (x : Exn) : (s.raised x).errinfo = x.errinfo := rfl
@[simp] theorem State.raised_cmd (s : State) (x : Exn) : (s.raised x).cmd = s.cmd := rfl
@[simp] theorem State.raised_inten (s : State) (x : Exn) : (s.raised x).inten = s.inten := rfl
@[simp] theorem State.raised_intstat (s : State) (x : Exn) : (s.raised x).intstat = s.intstat ||| intDone ||| intErr := rfl
@[simp] theorem State.raised_inputs (s : State) (x : Exn) : (s.raised x).inputs = s.inputs := rfl
@[simp] theorem State.raised_reply (s : State) (x : Exn) : (s.raised x).reply = s.reply := rfl

/-! ## Whole states -/

theorem State.integrityFail_of_fatal (s : State) (h : s.status.fatal = true) : s.integrityFail = s := by
  simp [State.integrityFail, h]

@[simp] theorem State.hardReset_inputs (s : State) : s.hardReset.inputs = s.inputs := rfl

theorem State.hardReset_eq (s : State) : s.hardReset = State.reset.setInputs s.inputs := rfl

theorem State.completed_fatal (s : State) : s.completed.status.fatal = s.status.fatal := rfl

theorem State.raised_fatal (s : State) (x : Exn) : (s.raised x).status.fatal = s.status.fatal := rfl

end Sys2Proof.Machine
end

