-- ==== Sys2Proof/Laws/Memory.lean ====
section
/-! SUPPORT. The buffer as memory: a read after a write, the bytes a string of writes leaves, and that every memory operation
keeps the canonical form. -/

namespace Sys2Proof.Machine

/-! ## The canonical form -/

theorem memWfFrom_cons (lo k : Nat) (b : Byte) (m : List Host.Cell) :
    memWfFrom lo ((k, b) :: m) = true ↔ lo ≤ k ∧ k < iobufEnd ∧ b ≠ 0 ∧ memWfFrom (k + 1) m = true := by
  simp [memWfFrom, and_assoc]

theorem memWfFrom_mono {lo lo' : Nat} {m : List Host.Cell} (h : memWfFrom lo m = true) (hle : lo' ≤ lo) :
    memWfFrom lo' m = true := by
  cases m with
  | nil => rfl
  | cons c m =>
    obtain ⟨k, b⟩ := c
    rw [memWfFrom_cons] at h ⊢
    exact ⟨by omega, h.2⟩

/-- A list canonical from `lo` lists no address below `lo`. -/
theorem memRead_below {lo a : Nat} {m : List Host.Cell} (h : memWfFrom lo m = true) (ha : a < lo) : memRead m a = 0 := by
  induction m generalizing lo with
  | nil => rfl
  | cons c m ih =>
    obtain ⟨k, b⟩ := c
    rw [memWfFrom_cons] at h
    have hk : k ≠ a := by omega
    simp only [memRead, hk, if_false]
    exact ih h.2.2.2 (by omega)

/-- One write keeps the canonical form. -/
theorem memWrite_wfFrom {lo a : Nat} {b : Byte} {m : List Host.Cell} (h : memWfFrom lo m = true) (ha : lo ≤ a)
    (ha' : a < iobufEnd) : memWfFrom lo (memWrite m a b) = true := by
  induction m generalizing lo with
  | nil =>
    by_cases hb : b = 0#8
    · simp [memWrite, hb, memWfFrom]
    · simp [memWrite, hb, memWfFrom, ha, ha']
  | cons c m ih =>
    obtain ⟨k, c⟩ := c
    have h' := h
    rw [memWfFrom_cons] at h
    obtain ⟨h1, h2, h3, h4⟩ := h
    unfold memWrite
    by_cases hlt : a < k
    · by_cases hb : b = 0#8
      · simpa [hlt, hb] using h'
      · simp only [BitVec.ofNat_eq_ofNat, hlt, hb, if_true, if_false]
        rw [memWfFrom_cons, memWfFrom_cons]
        exact ⟨ha, ha', hb, by omega, h2, h3, h4⟩
    · by_cases heq : a = k
      · by_cases hb : b = 0#8
        · simp only [BitVec.ofNat_eq_ofNat, heq, hb, lt_irrefl, if_true, if_false]
          exact memWfFrom_mono h4 (by omega)
        · simp only [BitVec.ofNat_eq_ofNat, heq, hb, lt_irrefl, if_true, if_false]
          rw [memWfFrom_cons]
          exact ⟨h1, h2, hb, h4⟩
      · simp only [hlt, heq, if_false]
        rw [memWfFrom_cons]
        exact ⟨h1, h2, h3, ih h4 (by omega)⟩

theorem memWrite_wf {a : Nat} {b : Byte} {m : List Host.Cell} (h : memWf m = true) (ha : iobufBase ≤ a)
    (ha' : a < iobufEnd) : memWf (memWrite m a b) = true := memWrite_wfFrom h ha ha'

/-- A string of writes inside the buffer keeps the canonical form. -/
theorem memWriteBytes_wf {m : List Host.Cell} {B : List Byte} {a : Nat} (h : memWf m = true) (ha : iobufBase ≤ a)
    (hb : a + B.length ≤ iobufEnd) : memWf (memWriteBytes m a B) = true := by
  induction B generalizing m a with
  | nil => exact h
  | cons b B ih =>
    simp only [List.length_cons] at hb
    exact ih (memWrite_wf h ha (by omega)) (by omega) (by omega)

/-- `StoreBytes` of at most 384 bytes keeps the canonical form (`20_memory.md` R78). -/
theorem storedMem_wf {m : List Host.Cell} {B : List Byte} (h : memWf m = true) (hB : B.length ≤ 384) :
    memWf (storedMem m B) = true := by
  unfold storedMem
  have e : (zeros (Config.IOBUF_BYTES - B.length)).length = 384 - B.length := by simp [zeros, Config.IOBUF_BYTES]
  refine memWriteBytes_wf (memWriteBytes_wf h (by simp [iobufBase]) (by simp [iobufBase, iobufEnd]; omega)) (by omega) ?_
  rw [e]
  simp [iobufBase, iobufEnd]
  omega

/-- The buffer after reset is canonical. -/
theorem reset_memWf : memWf State.reset.mem = true := rfl

/-! ## Reading back -/

/-- A write leaves every other address alone, whatever the list. -/
theorem memRead_memWrite_ne {m : List Host.Cell} {a a' : Nat} {b : Byte} (h : a' ≠ a) :
    memRead (memWrite m a b) a' = memRead m a' := by
  induction m with
  | nil =>
    by_cases hb : b = 0#8
    · simp [memWrite, hb]
    · simp [memWrite, hb, memRead, Ne.symm h]
  | cons c m ih =>
    obtain ⟨k, c⟩ := c
    unfold memWrite
    by_cases hlt : a < k
    · by_cases hb : b = 0#8
      · simp [hlt, hb]
      · simp [hlt, hb, memRead, Ne.symm h]
    · by_cases heq : a = k
      · subst heq
        by_cases hb : b = 0#8
        · simp [hb, memRead, Ne.symm h]
        · simp [hb, memRead, Ne.symm h]
      · simp [hlt, heq, memRead, ih]

/-- A byte written to a canonical buffer is read back. -/
theorem memRead_memWrite_same {lo : Nat} {m : List Host.Cell} {a : Nat} {b : Byte} (h : memWfFrom lo m = true) :
    memRead (memWrite m a b) a = b := by
  induction m generalizing lo with
  | nil =>
    by_cases hb : b = 0#8
    · simp [memWrite, hb, memRead]
    · simp [memWrite, hb, memRead]
  | cons c m ih =>
    obtain ⟨k, c⟩ := c
    have h' := (memWfFrom_cons lo k c m).1 h
    unfold memWrite
    by_cases hlt : a < k
    · by_cases hb : b = 0#8
      · have hk : k ≠ a := by omega
        simp only [BitVec.ofNat_eq_ofNat, hlt, hb, if_true, memRead, hk, if_false]
        exact memRead_below h'.2.2.2 (by omega)
      · simp [hlt, hb, memRead]
    · by_cases heq : a = k
      · subst heq
        by_cases hb : b = 0#8
        · simp only [BitVec.ofNat_eq_ofNat, hb, lt_irrefl, if_true, if_false]
          exact memRead_below h'.2.2.2 (by omega)
        · simp [hb, memRead]
      · simp only [hlt, heq, if_false, memRead, Ne.symm heq]
        exact ih h'.2.2.2

/-- Writes of a string leave the addresses outside it alone. -/
theorem memRead_memWriteBytes_outside {m : List Host.Cell} {B : List Byte} {a a' : Nat}
    (h : a' < a ∨ a + B.length ≤ a') : memRead (memWriteBytes m a B) a' = memRead m a' := by
  induction B generalizing m a with
  | nil => rfl
  | cons b B ih =>
    simp only [List.length_cons] at h
    rw [memWriteBytes, ih (by omega), memRead_memWrite_ne (by omega)]

/-- Writes of a string leave its bytes. -/
theorem memRead_memWriteBytes_inside {m : List Host.Cell} {B : List Byte} {a k : Nat} (hm : memWf m = true)
    (ha : iobufBase ≤ a) (hB : a + B.length ≤ iobufEnd) (hk : k < B.length) :
    memRead (memWriteBytes m a B) (a + k) = B.getD k 0 := by
  induction B generalizing m a k with
  | nil => simp at hk
  | cons b B ih =>
    simp only [List.length_cons] at hB hk
    rw [memWriteBytes]
    cases k with
    | zero =>
      rw [memRead_memWriteBytes_outside (by omega)]
      simpa using memRead_memWrite_same (lo := iobufBase) hm
    | succ k =>
      have e : a + (k + 1) = a + 1 + k := by omega
      rw [e, ih (memWrite_wf hm ha (by omega)) (by omega) (by omega) (by omega)]
      simp

theorem memReadBytes_length (m : List Host.Cell) (a n : Nat) : (memReadBytes m a n).length = n := by
  induction n generalizing a with
  | zero => rfl
  | succ n ih => simp [memReadBytes, ih]

theorem memReadBytes_eq_map (m : List Host.Cell) (a n : Nat) :
    memReadBytes m a n = (List.range n).map (fun k => memRead m (a + k)) := by
  induction n generalizing a with
  | zero => rfl
  | succ n ih =>
    rw [memReadBytes, ih, List.range_succ_eq_map]
    simp only [List.map_cons, List.map_map, Nat.add_zero]
    congr 1
    apply List.map_congr_left
    intro k _
    simp only [Function.comp]
    congr 1
    omega

/-! ## The buffer primitives (`20_memory.md` R77, R78) -/

/-- All that `LoadBytes` can answer. -/
theorem loadBytes_ok {s : State} {n : Nat} {B : List Byte} (h : loadBytes s n = .ok B) :
    s.iolen.toNat = n ∧ B.length = n ∧ B = (List.range n).map (fun k => s.iobuf k) := by
  unfold loadBytes at h
  split at h
  · cases h
  · rename_i hn
    cases h
    exact ⟨not_not.1 hn, memReadBytes_length _ _ _, by simp [memReadBytes_eq_map, State.iobuf]⟩

theorem loadBytes_error {s : State} {n : Nat} {x : Exn} (h : loadBytes s n = .error x) :
    s.iolen.toNat ≠ n ∧ x = .invalidLength := by
  unfold loadBytes at h
  split at h
  · rename_i hn
    cases h
    exact ⟨hn, rfl⟩
  · cases h

/-- `StoreBytes` outside the buffer: nothing. -/
theorem storedMem_outside {m : List Host.Cell} {B : List Byte} (hB : B.length ≤ 384) {a : Nat}
    (ha : a < iobufBase ∨ iobufEnd ≤ a) : memRead (storedMem m B) a = memRead m a := by
  have e : (zeros (Config.IOBUF_BYTES - B.length)).length = 384 - B.length := by simp [zeros, Config.IOBUF_BYTES]
  unfold storedMem
  simp only [iobufBase, iobufEnd] at *
  rw [memRead_memWriteBytes_outside (by rw [e]; omega), memRead_memWriteBytes_outside (by omega)]

/-- `StoreBytes` in the string: its bytes. -/
theorem storedMem_inside {m : List Host.Cell} {B : List Byte} (hm : memWf m = true) (hB : B.length ≤ 384) {k : Nat}
    (hk : k < B.length) : memRead (storedMem m B) (iobufBase + k) = B.getD k 0 := by
  unfold storedMem
  rw [memRead_memWriteBytes_outside (by omega)]
  exact memRead_memWriteBytes_inside hm le_rfl (by simp only [iobufBase, iobufEnd]; omega) hk

/-- `StoreBytes` behind the string: zeros. -/
theorem storedMem_rest {m : List Host.Cell} {B : List Byte} (hm : memWf m = true) (hB : B.length ≤ 384) {k : Nat}
    (hk : B.length ≤ k) (hk' : k < 384) : memRead (storedMem m B) (iobufBase + k) = 0 := by
  have e : (zeros (Config.IOBUF_BYTES - B.length)).length = 384 - B.length := by simp [zeros, Config.IOBUF_BYTES]
  unfold storedMem
  have hw : memWf (memWriteBytes m iobufBase B) = true :=
    memWriteBytes_wf hm le_rfl (by simp only [iobufBase, iobufEnd]; omega)
  have ek : iobufBase + k = iobufBase + B.length + (k - B.length) := by omega
  rw [ek, memRead_memWriteBytes_inside hw (by omega) (by rw [e]; simp only [iobufBase, iobufEnd]; omega) (by rw [e]; omega)]
  simp only [zeros, List.getD_eq_getElem?_getD, List.getElem?_replicate]
  split <;> rfl

end Sys2Proof.Machine
end

