-- ==== Sys2Proof/Laws/Ops.lean ====
section
/-! SUPPORT. For each shared operation, once, everything it can do. A command's next state is either the completion of its
effect or the error completion of the state it started in; the lemma of each shape says which effect, and which exceptions. -/

namespace Sys2Proof.Machine

/-! ## Sequencing -/

theorem bind_ok {ε α β : Type} {x : Except ε α} {f : α → Except ε β} {r : β} :
    (x >>= f) = .ok r ↔ ∃ a, x = .ok a ∧ f a = .ok r := by
  cases x with
  | error e => simp [bind, Except.bind]
  | ok a => simp [bind, Except.bind]

theorem bind_error {ε α β : Type} {x : Except ε α} {f : α → Except ε β} {e : ε} :
    (x >>= f) = .error e ↔ x = .error e ∨ ∃ a, x = .ok a ∧ f a = .error e := by
  cases x with
  | error e' => simp [bind, Except.bind]
  | ok a => simp [bind, Except.bind]

theorem pure_ok {ε α : Type} {a r : α} : (pure a : Except ε α) = .ok r ↔ a = r := by
  simp [pure, Except.pure]

theorem pure_error {ε α : Type} {a : α} {e : ε} : (pure a : Except ε α) = .error e ↔ False := by
  simp [pure, Except.pure]

/-! ## The end of a command -/

/-- All that the end of a command can be (`30_encoding.md` R109, `60_exceptions.md` R372). -/
theorem State.finish_next {s t : State} {e : Except Exn State} :
    s.finish e = .next t ↔ (∃ u, e = .ok u ∧ t = u.completed) ∨ ∃ x, e = .error x ∧ t = s.raised x := by
  cases e with
  | error x => simp [State.finish, eq_comm]
  | ok u => simp [State.finish, eq_comm]

@[simp] theorem State.finish_ok (s u : State) : s.finish (.ok u) = .next u.completed := rfl

@[simp] theorem State.finish_error (s : State) (x : Exn) : s.finish (.error x) = .next (s.raised x) := rfl

/-- A command never stops the machine. -/
theorem State.finish_isNext (s : State) (e : Except Exn State) : ∃ t, s.finish e = .next t := by
  cases e with
  | error x => exact ⟨_, rfl⟩
  | ok u => exact ⟨_, rfl⟩

/-! ## Indices -/

theorem pIdx_ok {i : PIdx} {j : Fin Config.NP} : pIdx i = .ok j ↔ i.toNat = j.val := by
  unfold pIdx
  by_cases h : i.toNat < Config.NP
  · simp [h, Fin.ext_iff]
  · simp [h]
    have := j.isLt
    omega

theorem pIdx_error {i : PIdx} {x : Exn} : pIdx i = .error x ↔ Config.NP ≤ i.toNat ∧ x = .indexOutOfRange := by
  unfold pIdx
  by_cases h : i.toNat < Config.NP
  · simp [h]
  · simp [h, eq_comm]
    omega

theorem qIdx_ok {i : QIdx} {j : Fin Config.NQ} : qIdx i = .ok j ↔ i.toNat = j.val := by
  unfold qIdx
  by_cases h : i.toNat < Config.NQ
  · simp [h, Fin.ext_iff]
  · simp [h]
    have := j.isLt
    omega

theorem qIdx_error {i : QIdx} {x : Exn} : qIdx i = .error x ↔ Config.NQ ≤ i.toNat ∧ x = .indexOutOfRange := by
  unfold qIdx
  by_cases h : i.toNat < Config.NQ
  · simp [h]
  · simp [h, eq_comm]
    omega

theorem kIdx_ok {i : KIdx} {j : Fin Config.NK} : kIdx i = .ok j ↔ i.toNat = j.val := by
  unfold kIdx
  by_cases h : i.toNat < Config.NK
  · simp [h, Fin.ext_iff]
  · simp [h]
    have := j.isLt
    omega

theorem kIdx_error {i : KIdx} {x : Exn} : kIdx i = .error x ↔ Config.NK ≤ i.toNat ∧ x = .indexOutOfRange := by
  unfold kIdx
  by_cases h : i.toNat < Config.NK
  · simp [h]
  · simp [h, eq_comm]
    omega

/-! ## Fetches -/

theorem getE_ok {α : Type} {accepts : EVal → Option α} {s : State} {i : EIdx} {w : Operand} {a : α} :
    getE accepts s i w = .ok a ↔ s.eregs[eIdx i] ≠ .empty ∧ accepts s.eregs[eIdx i] = some a := by
  unfold getE
  generalize s.eregs[eIdx i] = v
  by_cases h : v = .empty
  · simp [h]
  · cases hb : accepts v <;> simp [h]

theorem getE_error {α : Type} {accepts : EVal → Option α} {s : State} {i : EIdx} {w : Operand} {x : Exn} :
    getE accepts s i w = .error x ↔
      (s.eregs[eIdx i] = .empty ∧ x = .emptyOperand w) ∨
        (s.eregs[eIdx i] ≠ .empty ∧ accepts s.eregs[eIdx i] = none ∧ x = .typeMismatch w) := by
  unfold getE
  generalize s.eregs[eIdx i] = v
  by_cases h : v = .empty
  · simp [h, eq_comm]
  · cases hb : accepts v <;> simp [h, eq_comm]

theorem getValid_ok {α : Type} {r : Option α} {w : Operand} {a : α} : getValid r w = .ok a ↔ r = some a := by
  cases r <;> simp [getValid]

theorem getValid_error {α : Type} {r : Option α} {w : Operand} {x : Exn} :
    getValid r w = .error x ↔ r = none ∧ x = .emptyOperand w := by
  cases r <;> simp [getValid, eq_comm]

theorem getP_ok {s : State} {i : Fin Config.NP} {w : Operand} {A : G1Point} : getP s i w = .ok A ↔ s.pregs[i] = some A :=
  getValid_ok

theorem getQ_ok {s : State} {i : Fin Config.NQ} {w : Operand} {A : G2Point} : getQ s i w = .ok A ↔ s.qregs[i] = some A :=
  getValid_ok

theorem getK_ok {s : State} {i : Fin Config.NK} {w : Operand} {k : BitVec 256} :
    getK s i w = .ok k ↔ s.kregs[i] = some k := getValid_ok

/-! ## Shapes over the `E` file -/

section
variable {α : Type} {accepts : EVal → Option α} {tag : α → EVal} {s t : State} {rd ra rb : EIdx}

theorem eBinary_next {f : α → α → α} (h : eBinary accepts tag f rd ra rb s = .next t) :
    (∃ a b, getE accepts s ra .ra = .ok a ∧ getE accepts s rb .rb = .ok b ∧
      t = (s.setE (eIdx rd) (tag (f a b))).completed) ∨
    ∃ x, t = s.raised x ∧ (getE accepts s ra .ra = .error x ∨
      ∃ a, getE accepts s ra .ra = .ok a ∧ getE accepts s rb .rb = .error x) := by
  rcases State.finish_next.1 h with ⟨u, hu, rfl⟩ | ⟨x, hx, rfl⟩
  · obtain ⟨a, ha, h1⟩ := bind_ok.1 hu
    obtain ⟨b, hb, h2⟩ := bind_ok.1 h1
    obtain rfl := pure_ok.1 h2
    exact .inl ⟨a, b, ha, hb, rfl⟩
  · rcases bind_error.1 hx with h1 | ⟨a, ha, h1⟩
    · exact .inr ⟨x, rfl, .inl h1⟩
    · rcases bind_error.1 h1 with h2 | ⟨b, _, h2⟩
      · exact .inr ⟨x, rfl, .inr ⟨a, ha, h2⟩⟩
      · exact (pure_error.1 h2).elim

theorem eUnary_next {f : α → α} (h : eUnary accepts tag f rd ra s = .next t) :
    (∃ a, getE accepts s ra .ra = .ok a ∧ t = (s.setE (eIdx rd) (tag (f a))).completed) ∨
    ∃ x, t = s.raised x ∧ getE accepts s ra .ra = .error x := by
  rcases State.finish_next.1 h with ⟨u, hu, rfl⟩ | ⟨x, hx, rfl⟩
  · obtain ⟨a, ha, h1⟩ := bind_ok.1 hu
    obtain rfl := pure_ok.1 h1
    exact .inl ⟨a, ha, rfl⟩
  · rcases bind_error.1 hx with h1 | ⟨a, _, h1⟩
    · exact .inr ⟨x, rfl, h1⟩
    · exact (pure_error.1 h1).elim

theorem eNonZero_next [DecidableEq α] {zero : α} {f : α → α} (h : eNonZero accepts tag zero f rd ra s = .next t) :
    (∃ a, getE accepts s ra .ra = .ok a ∧ a ≠ zero ∧ t = (s.setE (eIdx rd) (tag (f a))).completed) ∨
    ∃ x, t = s.raised x ∧ (getE accepts s ra .ra = .error x ∨
      (getE accepts s ra .ra = .ok zero ∧ x = .divisionByZero)) := by
  rcases State.finish_next.1 h with ⟨u, hu, rfl⟩ | ⟨x, hx, rfl⟩
  · obtain ⟨a, ha, h1⟩ := bind_ok.1 hu
    split at h1
    · cases h1
    · rename_i hz
      obtain rfl := pure_ok.1 h1
      exact .inl ⟨a, ha, hz, rfl⟩
  · rcases bind_error.1 hx with h1 | ⟨a, ha, h1⟩
    · exact .inr ⟨x, rfl, .inl h1⟩
    · split at h1
      · rename_i hz
        cases h1
        subst hz
        exact .inr ⟨_, rfl, .inr ⟨ha, rfl⟩⟩
      · exact (pure_error.1 h1).elim

theorem eTest2_next {test : α → α → Bool} (h : eTest2 accepts test ra rb s = .next t) :
    (∃ a b, getE accepts s ra .ra = .ok a ∧ getE accepts s rb .rb = .ok b ∧ t = (s.setT (test a b)).completed) ∨
    ∃ x, t = s.raised x ∧ (getE accepts s ra .ra = .error x ∨
      ∃ a, getE accepts s ra .ra = .ok a ∧ getE accepts s rb .rb = .error x) := by
  rcases State.finish_next.1 h with ⟨u, hu, rfl⟩ | ⟨x, hx, rfl⟩
  · obtain ⟨a, ha, h1⟩ := bind_ok.1 hu
    obtain ⟨b, hb, h2⟩ := bind_ok.1 h1
    obtain rfl := pure_ok.1 h2
    exact .inl ⟨a, b, ha, hb, rfl⟩
  · rcases bind_error.1 hx with h1 | ⟨a, ha, h1⟩
    · exact .inr ⟨x, rfl, .inl h1⟩
    · rcases bind_error.1 h1 with h2 | ⟨b, _, h2⟩
      · exact .inr ⟨x, rfl, .inr ⟨a, ha, h2⟩⟩
      · exact (pure_error.1 h2).elim

theorem eTest_next {test : α → Bool} (h : eTest accepts test ra s = .next t) :
    (∃ a, getE accepts s ra .ra = .ok a ∧ t = (s.setT (test a)).completed) ∨
    ∃ x, t = s.raised x ∧ getE accepts s ra .ra = .error x := by
  rcases State.finish_next.1 h with ⟨u, hu, rfl⟩ | ⟨x, hx, rfl⟩
  · obtain ⟨a, ha, h1⟩ := bind_ok.1 hu
    obtain rfl := pure_ok.1 h1
    exact .inl ⟨a, ha, rfl⟩
  · rcases bind_error.1 hx with h1 | ⟨a, _, h1⟩
    · exact .inr ⟨x, rfl, h1⟩
    · exact (pure_error.1 h1).elim

theorem eLoad_next {n : Nat} {dec : List Byte → Except Exn α} (h : eLoad n dec tag rd s = .next t) :
    (∃ B a, loadBytes s n = .ok B ∧ dec B = .ok a ∧ t = (s.setE (eIdx rd) (tag a)).completed) ∨
    ∃ x, t = s.raised x ∧ (loadBytes s n = .error x ∨ ∃ B, loadBytes s n = .ok B ∧ dec B = .error x) := by
  rcases State.finish_next.1 h with ⟨u, hu, rfl⟩ | ⟨x, hx, rfl⟩
  · obtain ⟨B, hB, h1⟩ := bind_ok.1 hu
    obtain ⟨a, ha, h2⟩ := bind_ok.1 h1
    obtain rfl := pure_ok.1 h2
    exact .inl ⟨B, a, hB, ha, rfl⟩
  · rcases bind_error.1 hx with h1 | ⟨B, hB, h1⟩
    · exact .inr ⟨x, rfl, .inl h1⟩
    · rcases bind_error.1 h1 with h2 | ⟨a, _, h2⟩
      · exact .inr ⟨x, rfl, .inr ⟨B, hB, h2⟩⟩
      · exact (pure_error.1 h2).elim

theorem eStore_next {enc : α → List Byte} (h : eStore accepts enc ra s = .next t) :
    (∃ a, getE accepts s ra .ra = .ok a ∧ t = (storeBytes s (enc a)).completed) ∨
    ∃ x, t = s.raised x ∧ getE accepts s ra .ra = .error x := by
  rcases State.finish_next.1 h with ⟨u, hu, rfl⟩ | ⟨x, hx, rfl⟩
  · obtain ⟨a, ha, h1⟩ := bind_ok.1 hu
    obtain rfl := pure_ok.1 h1
    exact .inl ⟨a, ha, rfl⟩
  · rcases bind_error.1 hx with h1 | ⟨a, _, h1⟩
    · exact .inr ⟨x, rfl, h1⟩
    · exact (pure_error.1 h1).elim

end

/-! ## Shapes over the point files -/

section
variable {s t : State} {rd ra rb : PIdx}

theorem pUnary_next {f : G1Point → G1Point} (h : pUnary f rd ra s = .next t) :
    (∃ d a A, pIdx rd = .ok d ∧ pIdx ra = .ok a ∧ s.pregs[a] = some A ∧ t = (s.setP d (f A)).completed) ∨
    ∃ x, t = s.raised x := by
  rcases State.finish_next.1 h with ⟨u, hu, rfl⟩ | ⟨x, _, rfl⟩
  · obtain ⟨d, hd, h1⟩ := bind_ok.1 hu
    obtain ⟨a, ha, h2⟩ := bind_ok.1 h1
    obtain ⟨A, hA, h3⟩ := bind_ok.1 h2
    obtain rfl := pure_ok.1 h3
    exact .inl ⟨d, a, A, hd, ha, getP_ok.1 hA, rfl⟩
  · exact .inr ⟨x, rfl⟩

theorem pBinary_next {f : G1Point → G1Point → G1Point} (h : pBinary f rd ra rb s = .next t) :
    (∃ d a b A B, pIdx rd = .ok d ∧ pIdx ra = .ok a ∧ pIdx rb = .ok b ∧ s.pregs[a] = some A ∧ s.pregs[b] = some B ∧
      t = (s.setP d (f A B)).completed) ∨
    ∃ x, t = s.raised x := by
  rcases State.finish_next.1 h with ⟨u, hu, rfl⟩ | ⟨x, _, rfl⟩
  · obtain ⟨d, hd, h1⟩ := bind_ok.1 hu
    obtain ⟨a, ha, h2⟩ := bind_ok.1 h1
    obtain ⟨b, hb, h3⟩ := bind_ok.1 h2
    obtain ⟨A, hA, h4⟩ := bind_ok.1 h3
    obtain ⟨B, hB, h5⟩ := bind_ok.1 h4
    obtain rfl := pure_ok.1 h5
    exact .inl ⟨d, a, b, A, B, hd, ha, hb, getP_ok.1 hA, getP_ok.1 hB, rfl⟩
  · exact .inr ⟨x, rfl⟩

theorem pTest2_next {test : G1Point → G1Point → Bool} (h : pTest2 test ra rb s = .next t) :
    (∃ a b A B, pIdx ra = .ok a ∧ pIdx rb = .ok b ∧ s.pregs[a] = some A ∧ s.pregs[b] = some B ∧
      t = (s.setT (test A B)).completed) ∨
    ∃ x, t = s.raised x := by
  rcases State.finish_next.1 h with ⟨u, hu, rfl⟩ | ⟨x, _, rfl⟩
  · obtain ⟨a, ha, h2⟩ := bind_ok.1 hu
    obtain ⟨b, hb, h3⟩ := bind_ok.1 h2
    obtain ⟨A, hA, h4⟩ := bind_ok.1 h3
    obtain ⟨B, hB, h5⟩ := bind_ok.1 h4
    obtain rfl := pure_ok.1 h5
    exact .inl ⟨a, b, A, B, ha, hb, getP_ok.1 hA, getP_ok.1 hB, rfl⟩
  · exact .inr ⟨x, rfl⟩

theorem pTest_next {test : G1Point → Bool} (h : pTest test ra s = .next t) :
    (∃ a A, pIdx ra = .ok a ∧ s.pregs[a] = some A ∧ t = (s.setT (test A)).completed) ∨ ∃ x, t = s.raised x := by
  rcases State.finish_next.1 h with ⟨u, hu, rfl⟩ | ⟨x, _, rfl⟩
  · obtain ⟨a, ha, h1⟩ := bind_ok.1 hu
    obtain ⟨A, hA, h2⟩ := bind_ok.1 h1
    obtain rfl := pure_ok.1 h2
    exact .inl ⟨a, A, ha, getP_ok.1 hA, rfl⟩
  · exact .inr ⟨x, rfl⟩

theorem pRequire_next {ok : G1Point → Bool} {y : Exn} (h : pRequire ok y ra s = .next t) :
    (∃ a A, pIdx ra = .ok a ∧ s.pregs[a] = some A ∧ ok A = true ∧ t = s.completed) ∨ ∃ x, t = s.raised x := by
  rcases State.finish_next.1 h with ⟨u, hu, rfl⟩ | ⟨x, _, rfl⟩
  · obtain ⟨a, ha, h1⟩ := bind_ok.1 hu
    obtain ⟨A, hA, h2⟩ := bind_ok.1 h1
    split at h2
    · rename_i hk
      obtain rfl := pure_ok.1 h2
      exact .inl ⟨a, A, ha, getP_ok.1 hA, hk, rfl⟩
    · cases h2
  · exact .inr ⟨x, rfl⟩

theorem pConst_next {A : G1Point} (h : pConst A rd s = .next t) :
    (∃ d, pIdx rd = .ok d ∧ t = (s.setP d A).completed) ∨ ∃ x, t = s.raised x := by
  rcases State.finish_next.1 h with ⟨u, hu, rfl⟩ | ⟨x, _, rfl⟩
  · obtain ⟨d, hd, h1⟩ := bind_ok.1 hu
    obtain rfl := pure_ok.1 h1
    exact .inl ⟨d, hd, rfl⟩
  · exact .inr ⟨x, rfl⟩

theorem pLoad_next {n : Nat} {dec : List Byte → Except Exn G1Point} (h : pLoad n dec rd s = .next t) :
    (∃ d B A, pIdx rd = .ok d ∧ loadBytes s n = .ok B ∧ dec B = .ok A ∧ t = (s.setP d A).completed) ∨
    ∃ x, t = s.raised x := by
  rcases State.finish_next.1 h with ⟨u, hu, rfl⟩ | ⟨x, _, rfl⟩
  · obtain ⟨d, hd, h1⟩ := bind_ok.1 hu
    obtain ⟨B, hB, h2⟩ := bind_ok.1 h1
    obtain ⟨A, hA, h3⟩ := bind_ok.1 h2
    obtain rfl := pure_ok.1 h3
    exact .inl ⟨d, B, A, hd, hB, hA, rfl⟩
  · exact .inr ⟨x, rfl⟩

theorem pStore_next {enc : G1Point → List Byte} (h : pStore enc ra s = .next t) :
    (∃ a A, pIdx ra = .ok a ∧ s.pregs[a] = some A ∧ t = (storeBytes s (enc A)).completed) ∨ ∃ x, t = s.raised x := by
  rcases State.finish_next.1 h with ⟨u, hu, rfl⟩ | ⟨x, _, rfl⟩
  · obtain ⟨a, ha, h1⟩ := bind_ok.1 hu
    obtain ⟨A, hA, h2⟩ := bind_ok.1 h1
    obtain rfl := pure_ok.1 h2
    exact .inl ⟨a, A, ha, getP_ok.1 hA, rfl⟩
  · exact .inr ⟨x, rfl⟩

end

section
variable {s t : State} {rd ra rb : QIdx}

theorem qUnary_next {f : G2Point → G2Point} (h : qUnary f rd ra s = .next t) :
    (∃ d a A, qIdx rd = .ok d ∧ qIdx ra = .ok a ∧ s.qregs[a] = some A ∧ t = (s.setQ d (f A)).completed) ∨
    ∃ x, t = s.raised x := by
  rcases State.finish_next.1 h with ⟨u, hu, rfl⟩ | ⟨x, _, rfl⟩
  · obtain ⟨d, hd, h1⟩ := bind_ok.1 hu
    obtain ⟨a, ha, h2⟩ := bind_ok.1 h1
    obtain ⟨A, hA, h3⟩ := bind_ok.1 h2
    obtain rfl := pure_ok.1 h3
    exact .inl ⟨d, a, A, hd, ha, getQ_ok.1 hA, rfl⟩
  · exact .inr ⟨x, rfl⟩

theorem qBinary_next {f : G2Point → G2Point → G2Point} (h : qBinary f rd ra rb s = .next t) :
    (∃ d a b A B, qIdx rd = .ok d ∧ qIdx ra = .ok a ∧ qIdx rb = .ok b ∧ s.qregs[a] = some A ∧ s.qregs[b] = some B ∧
      t = (s.setQ d (f A B)).completed) ∨
    ∃ x, t = s.raised x := by
  rcases State.finish_next.1 h with ⟨u, hu, rfl⟩ | ⟨x, _, rfl⟩
  · obtain ⟨d, hd, h1⟩ := bind_ok.1 hu
    obtain ⟨a, ha, h2⟩ := bind_ok.1 h1
    obtain ⟨b, hb, h3⟩ := bind_ok.1 h2
    obtain ⟨A, hA, h4⟩ := bind_ok.1 h3
    obtain ⟨B, hB, h5⟩ := bind_ok.1 h4
    obtain rfl := pure_ok.1 h5
    exact .inl ⟨d, a, b, A, B, hd, ha, hb, getQ_ok.1 hA, getQ_ok.1 hB, rfl⟩
  · exact .inr ⟨x, rfl⟩

theorem qTest2_next {test : G2Point → G2Point → Bool} (h : qTest2 test ra rb s = .next t) :
    (∃ a b A B, qIdx ra = .ok a ∧ qIdx rb = .ok b ∧ s.qregs[a] = some A ∧ s.qregs[b] = some B ∧
      t = (s.setT (test A B)).completed) ∨
    ∃ x, t = s.raised x := by
  rcases State.finish_next.1 h with ⟨u, hu, rfl⟩ | ⟨x, _, rfl⟩
  · obtain ⟨a, ha, h2⟩ := bind_ok.1 hu
    obtain ⟨b, hb, h3⟩ := bind_ok.1 h2
    obtain ⟨A, hA, h4⟩ := bind_ok.1 h3
    obtain ⟨B, hB, h5⟩ := bind_ok.1 h4
    obtain rfl := pure_ok.1 h5
    exact .inl ⟨a, b, A, B, ha, hb, getQ_ok.1 hA, getQ_ok.1 hB, rfl⟩
  · exact .inr ⟨x, rfl⟩

theorem qTest_next {test : G2Point → Bool} (h : qTest test ra s = .next t) :
    (∃ a A, qIdx ra = .ok a ∧ s.qregs[a] = some A ∧ t = (s.setT (test A)).completed) ∨ ∃ x, t = s.raised x := by
  rcases State.finish_next.1 h with ⟨u, hu, rfl⟩ | ⟨x, _, rfl⟩
  · obtain ⟨a, ha, h1⟩ := bind_ok.1 hu
    obtain ⟨A, hA, h2⟩ := bind_ok.1 h1
    obtain rfl := pure_ok.1 h2
    exact .inl ⟨a, A, ha, getQ_ok.1 hA, rfl⟩
  · exact .inr ⟨x, rfl⟩

theorem qRequire_next {ok : G2Point → Bool} {y : Exn} (h : qRequire ok y ra s = .next t) :
    (∃ a A, qIdx ra = .ok a ∧ s.qregs[a] = some A ∧ ok A = true ∧ t = s.completed) ∨ ∃ x, t = s.raised x := by
  rcases State.finish_next.1 h with ⟨u, hu, rfl⟩ | ⟨x, _, rfl⟩
  · obtain ⟨a, ha, h1⟩ := bind_ok.1 hu
    obtain ⟨A, hA, h2⟩ := bind_ok.1 h1
    split at h2
    · rename_i hk
      obtain rfl := pure_ok.1 h2
      exact .inl ⟨a, A, ha, getQ_ok.1 hA, hk, rfl⟩
    · cases h2
  · exact .inr ⟨x, rfl⟩

theorem qConst_next {A : G2Point} (h : qConst A rd s = .next t) :
    (∃ d, qIdx rd = .ok d ∧ t = (s.setQ d A).completed) ∨ ∃ x, t = s.raised x := by
  rcases State.finish_next.1 h with ⟨u, hu, rfl⟩ | ⟨x, _, rfl⟩
  · obtain ⟨d, hd, h1⟩ := bind_ok.1 hu
    obtain rfl := pure_ok.1 h1
    exact .inl ⟨d, hd, rfl⟩
  · exact .inr ⟨x, rfl⟩

theorem qLoad_next {n : Nat} {dec : List Byte → Except Exn G2Point} (h : qLoad n dec rd s = .next t) :
    (∃ d B A, qIdx rd = .ok d ∧ loadBytes s n = .ok B ∧ dec B = .ok A ∧ t = (s.setQ d A).completed) ∨
    ∃ x, t = s.raised x := by
  rcases State.finish_next.1 h with ⟨u, hu, rfl⟩ | ⟨x, _, rfl⟩
  · obtain ⟨d, hd, h1⟩ := bind_ok.1 hu
    obtain ⟨B, hB, h2⟩ := bind_ok.1 h1
    obtain ⟨A, hA, h3⟩ := bind_ok.1 h2
    obtain rfl := pure_ok.1 h3
    exact .inl ⟨d, B, A, hd, hB, hA, rfl⟩
  · exact .inr ⟨x, rfl⟩

theorem qStore_next {enc : G2Point → List Byte} (h : qStore enc ra s = .next t) :
    (∃ a A, qIdx ra = .ok a ∧ s.qregs[a] = some A ∧ t = (storeBytes s (enc A)).completed) ∨ ∃ x, t = s.raised x := by
  rcases State.finish_next.1 h with ⟨u, hu, rfl⟩ | ⟨x, _, rfl⟩
  · obtain ⟨a, ha, h1⟩ := bind_ok.1 hu
    obtain ⟨A, hA, h2⟩ := bind_ok.1 h1
    obtain rfl := pure_ok.1 h2
    exact .inl ⟨a, A, ha, getQ_ok.1 hA, rfl⟩
  · exact .inr ⟨x, rfl⟩

end

/-! ## Frames of the buffer -/

theorem storeBytes_eq (s : State) (B : List Byte) :
    storeBytes s B = { s with mem := storedMem s.mem B, iolen := BitVec.ofNat 9 B.length } := rfl

/-- A raise changes nothing but `STATUS`, `ERRINFO` and `INTSTAT`. -/
theorem State.raised_eq (s : State) (x : Exn) :
    s.raised x =
      { s with
        status := { s.status with busy := false, done := true, err := true }
        errinfo := x.errinfo
        intstat := s.intstat ||| intDone ||| intErr } := rfl

end Sys2Proof.Machine
end

