-- ==== Sys2Proof/Laws/Ends.lean ====
section
/-! SUPPORT. The ends of a command, as the machine computes them and as `Safety.lean` writes them out; and what a step is for
each next event. -/

namespace Sys2Proof.Machine

/-! ## Ends -/

theorem vector_set_eq_setIfInBounds {α : Type} {n : Nat} (v : Vector α n) (i : Nat) (x : α) (h : i < n) :
    v.set i x h = v.setIfInBounds i x := by
  ext j hj
  rw [Vector.getElem_set, Vector.getElem_setIfInBounds]

theorem completed_eq_afterNone (s : State) : s.completed = s.afterNone := rfl

theorem completed_setT (s : State) (b : Bool) : (s.setT b).completed = s.afterT b := rfl

theorem completed_setLists (s : State) (a : List G1Point) (b : List G2Point) :
    (s.setLists a b).completed = s.afterLists a b := rfl

theorem completed_setE (s : State) (rd : EIdx) (v : EVal) : (s.setE (eIdx rd) v).completed = s.afterE rd v := by
  simp only [State.setE, eIdx, vector_set_eq_setIfInBounds]
  rfl

theorem completed_setP (s : State) (rd : PIdx) (d : Fin Config.NP) (h : rd.toNat = d.val) (A : G1Point) :
    (s.setP d A).completed = s.afterP rd A := by
  simp only [State.setP, vector_set_eq_setIfInBounds, ← h]
  rfl

theorem completed_setQ (s : State) (rd : QIdx) (d : Fin Config.NQ) (h : rd.toNat = d.val) (A : G2Point) :
    (s.setQ d A).completed = s.afterQ rd A := by
  simp only [State.setQ, vector_set_eq_setIfInBounds, ← h]
  rfl

theorem completed_setK (s : State) (rd : KIdx) (d : Fin Config.NK) (h : rd.toNat = d.val) (k : Option (BitVec 256)) :
    (s.setK d k).completed = s.afterK rd k := by
  simp only [State.setK, vector_set_eq_setIfInBounds, ← h]
  rfl

theorem raised_eq_afterRaise (s : State) (x : Exn) : s.raised x = s.afterRaise x.code x.sub x.idx := by
  have h : s.intstat ||| intDone ||| intErr = s.intstat ||| 3#4 := by
    rw [BitVec.or_assoc]
    rfl
  simp only [State.raised, State.afterRaise, Exn.errinfo, h]

/-! ## Holding a value -/

theorem holdsE_iff (s : State) (i : EIdx) (v : EVal) : s.holdsE i v ↔ s.eregs[eIdx i] = v := by
  unfold State.holdsE
  have h : i.toNat < Config.NE := i.isLt
  rw [Vector.getElem?_eq_getElem h]
  simp [eIdx]

theorem holdsP_iff (s : State) (i : PIdx) (A : G1Point) :
    s.holdsP i A ↔ ∃ d : Fin Config.NP, i.toNat = d.val ∧ s.pregs[d] = some A := by
  unfold State.holdsP
  constructor
  · intro h
    obtain ⟨hi, he⟩ := Vector.getElem?_eq_some_iff.1 h
    exact ⟨⟨i.toNat, hi⟩, rfl, he⟩
  · rintro ⟨d, hd, h⟩
    rw [hd]
    exact Vector.getElem?_eq_some_iff.2 ⟨d.isLt, h⟩

theorem holdsQ_iff (s : State) (i : QIdx) (A : G2Point) :
    s.holdsQ i A ↔ ∃ d : Fin Config.NQ, i.toNat = d.val ∧ s.qregs[d] = some A := by
  unfold State.holdsQ
  constructor
  · intro h
    obtain ⟨hi, he⟩ := Vector.getElem?_eq_some_iff.1 h
    exact ⟨⟨i.toNat, hi⟩, rfl, he⟩
  · rintro ⟨d, hd, h⟩
    rw [hd]
    exact Vector.getElem?_eq_some_iff.2 ⟨d.isLt, h⟩

theorem holdsK_iff (s : State) (i : KIdx) (k : BitVec 256) :
    s.holdsK i k ↔ ∃ d : Fin Config.NK, i.toNat = d.val ∧ s.kregs[d] = some k := by
  unfold State.holdsK
  constructor
  · intro h
    obtain ⟨hi, he⟩ := Vector.getElem?_eq_some_iff.1 h
    exact ⟨⟨i.toNat, hi⟩, rfl, he⟩
  · rintro ⟨d, hd, h⟩
    rw [hd]
    exact Vector.getElem?_eq_some_iff.2 ⟨d.isLt, h⟩

/-! ## One step, by its next event -/

theorem step_nil {s : State} (h : s.inputs = []) : step s = engineTurn s := by
  simp only [step, h]

theorem step_cons {s : State} {ev : Input} {rest : List Input} (h : s.inputs = ev :: rest) :
    step s = applyInput ev (s.setInputs rest) := by
  simp only [step, h]

theorem engineTurn_busy {s : State} (h : s.status.busy = true) : engineTurn s = completeCommand s := by
  simp [engineTurn, h]

theorem engineTurn_idle {s : State} (h : s.status.busy = false) : engineTurn s = .next s := by
  simp [engineTurn, h]

theorem completeCommand_ok {s : State} {i : Instr} (h : decode s.cmd = .ok i) : completeCommand s = exec i s := by
  simp only [completeCommand, h]

theorem completeCommand_error {s : State} {e : Illegal} (h : decode s.cmd = .error e) :
    completeCommand s = .next (s.raised (illegalExn e)) := by
  simp only [completeCommand, h]

end Sys2Proof.Machine
end

