-- ==== Sys2Proof/Laws/PerInstr.lean ====
section
/-! SUPPORT. The statements made per instruction: `Packed`, that a command's word is its opcode, assigned in the table, and
its register fields, with every unused field 0 (`30_encoding.md` R102, R105). -/

namespace Sys2Proof.Laws

/-- The command's word is packed from an assigned opcode and three fields. -/
def Packed.Statement (i : Instr) : Prop :=
  ∃ (o : BitVec 8) (rd ra rb : RegIdx), encode i = pack o rd ra rb ∧ (findRow o.toNat).isSome = true

theorem Packed.nop : Packed.Statement .nop := ⟨0x00, 0, 0, 0, rfl, rfl⟩
theorem Packed.zeroize : Packed.Statement .zeroize := ⟨0x01, 0, 0, 0, rfl, rfl⟩
theorem Packed.eMov (rd ra : RegIdx) : Packed.Statement (.eMov rd ra) := ⟨0x02, rd, ra, 0, rfl, rfl⟩
theorem Packed.fpAdd (rd ra rb : RegIdx) : Packed.Statement (.fpAdd rd ra rb) := ⟨0x10, rd, ra, rb, rfl, rfl⟩
theorem Packed.fpSub (rd ra rb : RegIdx) : Packed.Statement (.fpSub rd ra rb) := ⟨0x11, rd, ra, rb, rfl, rfl⟩
theorem Packed.fpNeg (rd ra : RegIdx) : Packed.Statement (.fpNeg rd ra) := ⟨0x12, rd, ra, 0, rfl, rfl⟩
theorem Packed.fpMul (rd ra rb : RegIdx) : Packed.Statement (.fpMul rd ra rb) := ⟨0x13, rd, ra, rb, rfl, rfl⟩
theorem Packed.fpSqr (rd ra : RegIdx) : Packed.Statement (.fpSqr rd ra) := ⟨0x14, rd, ra, 0, rfl, rfl⟩
theorem Packed.fpInv (rd ra : RegIdx) : Packed.Statement (.fpInv rd ra) := ⟨0x15, rd, ra, 0, rfl, rfl⟩
theorem Packed.fpEq (ra rb : RegIdx) : Packed.Statement (.fpEq ra rb) := ⟨0x16, 0, ra, rb, rfl, rfl⟩
theorem Packed.fpZero (rd : RegIdx) : Packed.Statement (.fpZero rd) := ⟨0x17, rd, 0, 0, rfl, rfl⟩
theorem Packed.fpOne (rd : RegIdx) : Packed.Statement (.fpOne rd) := ⟨0x18, rd, 0, 0, rfl, rfl⟩
theorem Packed.fpLd (rd : RegIdx) : Packed.Statement (.fpLd rd) := ⟨0x19, rd, 0, 0, rfl, rfl⟩
theorem Packed.fpSt (ra : RegIdx) : Packed.Statement (.fpSt ra) := ⟨0x1A, 0, ra, 0, rfl, rfl⟩
theorem Packed.fp2Add (rd ra rb : RegIdx) : Packed.Statement (.fp2Add rd ra rb) := ⟨0x20, rd, ra, rb, rfl, rfl⟩
theorem Packed.fp2Sub (rd ra rb : RegIdx) : Packed.Statement (.fp2Sub rd ra rb) := ⟨0x21, rd, ra, rb, rfl, rfl⟩
theorem Packed.fp2Neg (rd ra : RegIdx) : Packed.Statement (.fp2Neg rd ra) := ⟨0x22, rd, ra, 0, rfl, rfl⟩
theorem Packed.fp2Mul (rd ra rb : RegIdx) : Packed.Statement (.fp2Mul rd ra rb) := ⟨0x23, rd, ra, rb, rfl, rfl⟩
theorem Packed.fp2Sqr (rd ra : RegIdx) : Packed.Statement (.fp2Sqr rd ra) := ⟨0x24, rd, ra, 0, rfl, rfl⟩
theorem Packed.fp2Inv (rd ra : RegIdx) : Packed.Statement (.fp2Inv rd ra) := ⟨0x25, rd, ra, 0, rfl, rfl⟩
theorem Packed.fp2Eq (ra rb : RegIdx) : Packed.Statement (.fp2Eq ra rb) := ⟨0x26, 0, ra, rb, rfl, rfl⟩
theorem Packed.fp2Zero (rd : RegIdx) : Packed.Statement (.fp2Zero rd) := ⟨0x27, rd, 0, 0, rfl, rfl⟩
theorem Packed.fp2One (rd : RegIdx) : Packed.Statement (.fp2One rd) := ⟨0x28, rd, 0, 0, rfl, rfl⟩
theorem Packed.fp2Ld (rd : RegIdx) : Packed.Statement (.fp2Ld rd) := ⟨0x29, rd, 0, 0, rfl, rfl⟩
theorem Packed.fp2St (ra : RegIdx) : Packed.Statement (.fp2St ra) := ⟨0x2A, 0, ra, 0, rfl, rfl⟩
theorem Packed.fp6Add (rd ra rb : RegIdx) : Packed.Statement (.fp6Add rd ra rb) := ⟨0x30, rd, ra, rb, rfl, rfl⟩
theorem Packed.fp6Sub (rd ra rb : RegIdx) : Packed.Statement (.fp6Sub rd ra rb) := ⟨0x31, rd, ra, rb, rfl, rfl⟩
theorem Packed.fp6Neg (rd ra : RegIdx) : Packed.Statement (.fp6Neg rd ra) := ⟨0x32, rd, ra, 0, rfl, rfl⟩
theorem Packed.fp6Mul (rd ra rb : RegIdx) : Packed.Statement (.fp6Mul rd ra rb) := ⟨0x33, rd, ra, rb, rfl, rfl⟩
theorem Packed.fp6Sqr (rd ra : RegIdx) : Packed.Statement (.fp6Sqr rd ra) := ⟨0x34, rd, ra, 0, rfl, rfl⟩
theorem Packed.fp6Inv (rd ra : RegIdx) : Packed.Statement (.fp6Inv rd ra) := ⟨0x35, rd, ra, 0, rfl, rfl⟩
theorem Packed.fp6Eq (ra rb : RegIdx) : Packed.Statement (.fp6Eq ra rb) := ⟨0x36, 0, ra, rb, rfl, rfl⟩
theorem Packed.fp6Zero (rd : RegIdx) : Packed.Statement (.fp6Zero rd) := ⟨0x37, rd, 0, 0, rfl, rfl⟩
theorem Packed.fp6One (rd : RegIdx) : Packed.Statement (.fp6One rd) := ⟨0x38, rd, 0, 0, rfl, rfl⟩
theorem Packed.fp6Ld (rd : RegIdx) : Packed.Statement (.fp6Ld rd) := ⟨0x39, rd, 0, 0, rfl, rfl⟩
theorem Packed.fp6St (ra : RegIdx) : Packed.Statement (.fp6St ra) := ⟨0x3A, 0, ra, 0, rfl, rfl⟩
theorem Packed.fp12Add (rd ra rb : RegIdx) : Packed.Statement (.fp12Add rd ra rb) := ⟨0x40, rd, ra, rb, rfl, rfl⟩
theorem Packed.fp12Sub (rd ra rb : RegIdx) : Packed.Statement (.fp12Sub rd ra rb) := ⟨0x41, rd, ra, rb, rfl, rfl⟩
theorem Packed.fp12Neg (rd ra : RegIdx) : Packed.Statement (.fp12Neg rd ra) := ⟨0x42, rd, ra, 0, rfl, rfl⟩
theorem Packed.fp12Mul (rd ra rb : RegIdx) : Packed.Statement (.fp12Mul rd ra rb) := ⟨0x43, rd, ra, rb, rfl, rfl⟩
theorem Packed.fp12Sqr (rd ra : RegIdx) : Packed.Statement (.fp12Sqr rd ra) := ⟨0x44, rd, ra, 0, rfl, rfl⟩
theorem Packed.fp12Inv (rd ra : RegIdx) : Packed.Statement (.fp12Inv rd ra) := ⟨0x45, rd, ra, 0, rfl, rfl⟩
theorem Packed.fp12Eq (ra rb : RegIdx) : Packed.Statement (.fp12Eq ra rb) := ⟨0x46, 0, ra, rb, rfl, rfl⟩
theorem Packed.fp12Zero (rd : RegIdx) : Packed.Statement (.fp12Zero rd) := ⟨0x47, rd, 0, 0, rfl, rfl⟩
theorem Packed.fp12One (rd : RegIdx) : Packed.Statement (.fp12One rd) := ⟨0x48, rd, 0, 0, rfl, rfl⟩
theorem Packed.fp12Ld (rd : RegIdx) : Packed.Statement (.fp12Ld rd) := ⟨0x49, rd, 0, 0, rfl, rfl⟩
theorem Packed.fp12St (ra : RegIdx) : Packed.Statement (.fp12St ra) := ⟨0x4A, 0, ra, 0, rfl, rfl⟩
theorem Packed.gtMul (rd ra rb : RegIdx) : Packed.Statement (.gtMul rd ra rb) := ⟨0x50, rd, ra, rb, rfl, rfl⟩
theorem Packed.gtInv (rd ra : RegIdx) : Packed.Statement (.gtInv rd ra) := ⟨0x51, rd, ra, 0, rfl, rfl⟩
theorem Packed.gtExp (rd ra rb : RegIdx) : Packed.Statement (.gtExp rd ra rb) := ⟨0x52, rd, ra, rb, rfl, rfl⟩
theorem Packed.gtEq (ra rb : RegIdx) : Packed.Statement (.gtEq ra rb) := ⟨0x53, 0, ra, rb, rfl, rfl⟩
theorem Packed.gtIsOne (ra : RegIdx) : Packed.Statement (.gtIsOne ra) := ⟨0x54, 0, ra, 0, rfl, rfl⟩
theorem Packed.gtOne (rd : RegIdx) : Packed.Statement (.gtOne rd) := ⟨0x55, rd, 0, 0, rfl, rfl⟩
theorem Packed.gtSt (ra : RegIdx) : Packed.Statement (.gtSt ra) := ⟨0x56, 0, ra, 0, rfl, rfl⟩
theorem Packed.gtToFp12 (rd ra : RegIdx) : Packed.Statement (.gtToFp12 rd ra) := ⟨0x57, rd, ra, 0, rfl, rfl⟩
theorem Packed.g1Add (rd ra rb : RegIdx) : Packed.Statement (.g1Add rd ra rb) := ⟨0x60, rd, ra, rb, rfl, rfl⟩
theorem Packed.g1Dbl (rd ra : RegIdx) : Packed.Statement (.g1Dbl rd ra) := ⟨0x61, rd, ra, 0, rfl, rfl⟩
theorem Packed.g1Neg (rd ra : RegIdx) : Packed.Statement (.g1Neg rd ra) := ⟨0x62, rd, ra, 0, rfl, rfl⟩
theorem Packed.g1IsOnCurve (ra : RegIdx) : Packed.Statement (.g1IsOnCurve ra) := ⟨0x63, 0, ra, 0, rfl, rfl⟩
theorem Packed.g1IsId (ra : RegIdx) : Packed.Statement (.g1IsId ra) := ⟨0x64, 0, ra, 0, rfl, rfl⟩
theorem Packed.g1Eq (ra rb : RegIdx) : Packed.Statement (.g1Eq ra rb) := ⟨0x65, 0, ra, rb, rfl, rfl⟩
theorem Packed.g1ChkSub (ra : RegIdx) : Packed.Statement (.g1ChkSub ra) := ⟨0x66, 0, ra, 0, rfl, rfl⟩
theorem Packed.g1SetId (rd : RegIdx) : Packed.Statement (.g1SetId rd) := ⟨0x67, rd, 0, 0, rfl, rfl⟩
theorem Packed.g1Gen (rd : RegIdx) : Packed.Statement (.g1Gen rd) := ⟨0x68, rd, 0, 0, rfl, rfl⟩
theorem Packed.g1Ld (rd : RegIdx) : Packed.Statement (.g1Ld rd) := ⟨0x69, rd, 0, 0, rfl, rfl⟩
theorem Packed.g1St (ra : RegIdx) : Packed.Statement (.g1St ra) := ⟨0x6A, 0, ra, 0, rfl, rfl⟩
theorem Packed.g1Ldc (rd : RegIdx) : Packed.Statement (.g1Ldc rd) := ⟨0x6B, rd, 0, 0, rfl, rfl⟩
theorem Packed.g1Stc (ra : RegIdx) : Packed.Statement (.g1Stc ra) := ⟨0x6C, 0, ra, 0, rfl, rfl⟩
theorem Packed.g1Mov (rd ra : RegIdx) : Packed.Statement (.g1Mov rd ra) := ⟨0x6D, rd, ra, 0, rfl, rfl⟩
theorem Packed.g1Smul (rd ra rb : RegIdx) : Packed.Statement (.g1Smul rd ra rb) := ⟨0x6E, rd, ra, rb, rfl, rfl⟩
theorem Packed.g2Add (rd ra rb : RegIdx) : Packed.Statement (.g2Add rd ra rb) := ⟨0x70, rd, ra, rb, rfl, rfl⟩
theorem Packed.g2Dbl (rd ra : RegIdx) : Packed.Statement (.g2Dbl rd ra) := ⟨0x71, rd, ra, 0, rfl, rfl⟩
theorem Packed.g2Neg (rd ra : RegIdx) : Packed.Statement (.g2Neg rd ra) := ⟨0x72, rd, ra, 0, rfl, rfl⟩
theorem Packed.g2IsOnCurve (ra : RegIdx) : Packed.Statement (.g2IsOnCurve ra) := ⟨0x73, 0, ra, 0, rfl, rfl⟩
theorem Packed.g2IsId (ra : RegIdx) : Packed.Statement (.g2IsId ra) := ⟨0x74, 0, ra, 0, rfl, rfl⟩
theorem Packed.g2Eq (ra rb : RegIdx) : Packed.Statement (.g2Eq ra rb) := ⟨0x75, 0, ra, rb, rfl, rfl⟩
theorem Packed.g2ChkSub (ra : RegIdx) : Packed.Statement (.g2ChkSub ra) := ⟨0x76, 0, ra, 0, rfl, rfl⟩
theorem Packed.g2SetId (rd : RegIdx) : Packed.Statement (.g2SetId rd) := ⟨0x77, rd, 0, 0, rfl, rfl⟩
theorem Packed.g2Gen (rd : RegIdx) : Packed.Statement (.g2Gen rd) := ⟨0x78, rd, 0, 0, rfl, rfl⟩
theorem Packed.g2Ld (rd : RegIdx) : Packed.Statement (.g2Ld rd) := ⟨0x79, rd, 0, 0, rfl, rfl⟩
theorem Packed.g2St (ra : RegIdx) : Packed.Statement (.g2St ra) := ⟨0x7A, 0, ra, 0, rfl, rfl⟩
theorem Packed.g2Ldc (rd : RegIdx) : Packed.Statement (.g2Ldc rd) := ⟨0x7B, rd, 0, 0, rfl, rfl⟩
theorem Packed.g2Stc (ra : RegIdx) : Packed.Statement (.g2Stc ra) := ⟨0x7C, 0, ra, 0, rfl, rfl⟩
theorem Packed.g2Mov (rd ra : RegIdx) : Packed.Statement (.g2Mov rd ra) := ⟨0x7D, rd, ra, 0, rfl, rfl⟩
theorem Packed.g2Smul (rd ra rb : RegIdx) : Packed.Statement (.g2Smul rd ra rb) := ⟨0x7E, rd, ra, rb, rfl, rfl⟩
theorem Packed.kLd (rd : RegIdx) : Packed.Statement (.kLd rd) := ⟨0x80, rd, 0, 0, rfl, rfl⟩
theorem Packed.kClr (rd : RegIdx) : Packed.Statement (.kClr rd) := ⟨0x81, rd, 0, 0, rfl, rfl⟩
theorem Packed.miller (rd ra rb : RegIdx) : Packed.Statement (.miller rd ra rb) := ⟨0x90, rd, ra, rb, rfl, rfl⟩
theorem Packed.finalExp (rd ra : RegIdx) : Packed.Statement (.finalExp rd ra) := ⟨0x91, rd, ra, 0, rfl, rfl⟩
theorem Packed.pair (rd ra rb : RegIdx) : Packed.Statement (.pair rd ra rb) := ⟨0x92, rd, ra, rb, rfl, rfl⟩
theorem Packed.mloMul (rd ra rb : RegIdx) : Packed.Statement (.mloMul rd ra rb) := ⟨0x93, rd, ra, rb, rfl, rfl⟩
theorem Packed.mloOne (rd : RegIdx) : Packed.Statement (.mloOne rd) := ⟨0x94, rd, 0, 0, rfl, rfl⟩
theorem Packed.pcClr : Packed.Statement .pcClr := ⟨0xA0, 0, 0, 0, rfl, rfl⟩
theorem Packed.pcPush1 (ra : RegIdx) : Packed.Statement (.pcPush1 ra) := ⟨0xA1, 0, ra, 0, rfl, rfl⟩
theorem Packed.pcPush2 (ra : RegIdx) : Packed.Statement (.pcPush2 ra) := ⟨0xA2, 0, ra, 0, rfl, rfl⟩
theorem Packed.pcRun : Packed.Statement .pcRun := ⟨0xA3, 0, 0, 0, rfl, rfl⟩

end Sys2Proof.Laws
end

