-- ==== Sys2Proof/Laws/Timing.lean ====
section
/-! SUPPORT. The bounds of the latencies (`70_reset_and_hazards.md` R417, R418), what a list of Miller steps unfolds to, and that
the operand checks read tags and valid bits only. -/

namespace Sys2Proof.Machine

theorem lat_pos (opcode : BitVec 8) : 0 < lat opcode := Nat.succ_pos _

theorem latPcRun_pos (n1 n2 : Nat) : 0 < latPcRun n1 n2 := Nat.succ_pos _

theorem latNormal_pos (w : Word) (n1 n2 : Nat) : 0 < latNormal w n1 n2 := by
  unfold latNormal
  split
  · exact latPcRun_pos n1 n2
  · exact lat_pos _

/-- A command that raises never takes longer than one that completes normally. -/
theorem latError_le (code : BitVec 8) (full : Nat) : latError code full ≤ full := by
  unfold latError
  split
  · exact Nat.le_refl full
  · exact Nat.min_le_right _ _

theorem latError_pos (code : BitVec 8) {full : Nat} (h : 0 < full) : 0 < latError code full := by
  unfold latError
  split
  · exact h
  · exact Nat.lt_min.mpr ⟨Nat.succ_pos _, h⟩

/-- The latency, once the completion is known. -/
theorem latency_of_completion {s t : State} (h : completeCommand s = .next t) :
    latency s =
      if t.status.err then latError (t.errinfo.truncate 8) (latNormal s.cmd s.l1.length s.l2.length)
      else latNormal s.cmd s.l1.length s.l2.length := by
  unfold latency
  rw [h]

@[simp] theorem walkLines_nil (T : G2Point) : walkLines T [] = .ok [] := rfl

theorem walkLines_double {T : G2Point} {d : LineStep} (rest : List (Option G2Point)) (h : dblStep T = .ok d) :
    walkLines T (none :: rest) = (walkLines d.next rest).map ((d.l, d.m) :: ·) := by
  simp only [walkLines, h]
  cases walkLines d.next rest <;> rfl

theorem walkLines_add {T R : G2Point} {d : LineStep} (rest : List (Option G2Point)) (h : addStep T R = .ok d) :
    walkLines T (some R :: rest) = (walkLines d.next rest).map ((d.l, d.m) :: ·) := by
  simp only [walkLines, h]
  cases walkLines d.next rest <;> rfl

/-- Equal images of two vectors have equal images at every index. -/
theorem getElem?_map_congr {α β : Type} {n : Nat} {v w : Vector α n} {f : α → β} (h : v.map f = w.map f) (i : Nat) :
    v[i]?.map f = w[i]?.map f := by
  rw [← Vector.getElem?_map, ← Vector.getElem?_map, h]

theorem State.sameKinds_refl (s : State) : s.sameKinds s := by simp [State.sameKinds]

/-- Whether an operand is there depends on tags and valid bits only. -/
theorem State.sameKinds.present_eq {s t : State} (h : s.sameKinds t) (x : Source) : x.present s = x.present t := by
  obtain ⟨he, hp, hq, hk, -⟩ := h
  cases x with
  | e r _ => simp only [Source.present, getElem?_map_congr he]
  | p r => simp only [Source.present, getElem?_map_congr hp]
  | q r => simp only [Source.present, getElem?_map_congr hq]
  | k r => simp only [Source.present, getElem?_map_congr hk]

/-- Whether an operand has a type the command accepts depends on tags only. -/
theorem State.sameKinds.accepted_eq {s t : State} (h : s.sameKinds t) (x : Source) : x.accepted s = x.accepted t := by
  obtain ⟨he, -⟩ := h
  cases x with
  | e r _ => simp only [Source.accepted, getElem?_map_congr he]
  | p r | q r | k r => rfl

end Sys2Proof.Machine
end

