-- ==== Sys2Proof/Tests/Slice0.lean ====
section
/-! SUPPORT. Tests: ill-formed commands refused, every constructor's word decoded, one step of the commands against the spec's
examples and vectors (`95_test_vectors.md`, the examples of the command rules), and for every statement with hypotheses a state
and operands that meet them. -/

namespace Sys2Proof.Tests
set_option Elab.async false

open Sys2Proof.Machine

/-! ## WellFormed: the first index past each limit is refused, the last one accepted (R103) -/

theorem test_illFormedGtRefused :
    [(Instr.gtExp 0 0 4)].all (fun i => !i.wellFormed) = true := by decide +kernel

theorem test_wellFormedGtAccepted :
    [(Instr.gtExp 15 15 3)].all (fun i => i.wellFormed) = true := by decide +kernel

theorem test_illFormedG1Refused :
    [(Instr.g1Add 8 0 0), (Instr.g1Add 0 8 0), (Instr.g1Add 0 0 8), (Instr.g1Dbl 8 0),
    (Instr.g1Dbl 0 8), (Instr.g1Neg 8 0), (Instr.g1Neg 0 8), (Instr.g1IsOnCurve 8),
    (Instr.g1IsId 8), (Instr.g1Eq 8 0), (Instr.g1Eq 0 8), (Instr.g1ChkSub 8),
    (Instr.g1SetId 8), (Instr.g1Gen 8), (Instr.g1Ld 8), (Instr.g1St 8),
    (Instr.g1Ldc 8), (Instr.g1Stc 8), (Instr.g1Mov 8 0), (Instr.g1Mov 0 8),
    (Instr.g1Smul 8 0 0), (Instr.g1Smul 0 8 0), (Instr.g1Smul 0 0 4)].all (fun i => !i.wellFormed) = true := by decide +kernel

theorem test_wellFormedG1Accepted :
    [(Instr.g1Add 7 7 7), (Instr.g1Dbl 7 7), (Instr.g1Neg 7 7), (Instr.g1IsOnCurve 7),
    (Instr.g1IsId 7), (Instr.g1Eq 7 7), (Instr.g1ChkSub 7), (Instr.g1SetId 7),
    (Instr.g1Gen 7), (Instr.g1Ld 7), (Instr.g1St 7), (Instr.g1Ldc 7),
    (Instr.g1Stc 7), (Instr.g1Mov 7 7), (Instr.g1Smul 7 7 3)].all (fun i => i.wellFormed) = true := by decide +kernel

theorem test_illFormedG2Refused :
    [(Instr.g2Add 8 0 0), (Instr.g2Add 0 8 0), (Instr.g2Add 0 0 8), (Instr.g2Dbl 8 0),
    (Instr.g2Dbl 0 8), (Instr.g2Neg 8 0), (Instr.g2Neg 0 8), (Instr.g2IsOnCurve 8),
    (Instr.g2IsId 8), (Instr.g2Eq 8 0), (Instr.g2Eq 0 8), (Instr.g2ChkSub 8),
    (Instr.g2SetId 8), (Instr.g2Gen 8), (Instr.g2Ld 8), (Instr.g2St 8),
    (Instr.g2Ldc 8), (Instr.g2Stc 8), (Instr.g2Mov 8 0), (Instr.g2Mov 0 8),
    (Instr.g2Smul 8 0 0), (Instr.g2Smul 0 8 0), (Instr.g2Smul 0 0 4)].all (fun i => !i.wellFormed) = true := by decide +kernel

theorem test_wellFormedG2Accepted :
    [(Instr.g2Add 7 7 7), (Instr.g2Dbl 7 7), (Instr.g2Neg 7 7), (Instr.g2IsOnCurve 7),
    (Instr.g2IsId 7), (Instr.g2Eq 7 7), (Instr.g2ChkSub 7), (Instr.g2SetId 7),
    (Instr.g2Gen 7), (Instr.g2Ld 7), (Instr.g2St 7), (Instr.g2Ldc 7),
    (Instr.g2Stc 7), (Instr.g2Mov 7 7), (Instr.g2Smul 7 7 3)].all (fun i => i.wellFormed) = true := by decide +kernel

theorem test_illFormedScalarRefused :
    [(Instr.kLd 4), (Instr.kClr 4)].all (fun i => !i.wellFormed) = true := by decide +kernel

theorem test_wellFormedScalarAccepted :
    [(Instr.kLd 3), (Instr.kClr 3)].all (fun i => i.wellFormed) = true := by decide +kernel

theorem test_illFormedPairingRefused :
    [(Instr.miller 0 8 0), (Instr.miller 0 0 8), (Instr.pair 0 8 0), (Instr.pair 0 0 8)].all (fun i => !i.wellFormed) = true := by decide +kernel

theorem test_wellFormedPairingAccepted :
    [(Instr.miller 15 7 7), (Instr.pair 15 7 7)].all (fun i => i.wellFormed) = true := by decide +kernel

theorem test_illFormedPairingCheckRefused :
    [(Instr.pcPush1 8), (Instr.pcPush2 8)].all (fun i => !i.wellFormed) = true := by decide +kernel

theorem test_wellFormedPairingCheckAccepted :
    [(Instr.pcPush1 7), (Instr.pcPush2 7)].all (fun i => i.wellFormed) = true := by decide +kernel

theorem test_allEIndicesAccepted : Instr.wellFormed (.fp12Mul 15 15 15) = true := by decide +kernel

/-! ## Decode: one word per constructor, written from R101, R102 and the opcode map R105, bit by bit -/

/-- Each word decodes to its command. -/
def decodesTo (ws : List (Word × Instr)) : Bool := ws.all (fun x => decide (decode x.1 = .ok x.2))

theorem test_decodeSystem :
    decodesTo
      [(0b00000000_0000_0000_0000_000000000000#32, .nop),
       (0b00000001_0000_0000_0000_000000000000#32, .zeroize),
       (0b00000010_0011_0001_0000_000000000000#32, .eMov 3 1)] = true := by decide +kernel

theorem test_decodeFp :
    decodesTo
      [(0b00010000_0011_0001_0010_000000000000#32, .fpAdd 3 1 2),
       (0b00010001_0011_0001_0010_000000000000#32, .fpSub 3 1 2),
       (0b00010010_0011_0001_0000_000000000000#32, .fpNeg 3 1),
       (0b00010011_0011_0001_0010_000000000000#32, .fpMul 3 1 2),
       (0b00010100_0011_0001_0000_000000000000#32, .fpSqr 3 1),
       (0b00010101_0011_0001_0000_000000000000#32, .fpInv 3 1),
       (0b00010110_0000_0001_0010_000000000000#32, .fpEq 1 2),
       (0b00010111_0011_0000_0000_000000000000#32, .fpZero 3),
       (0b00011000_0011_0000_0000_000000000000#32, .fpOne 3),
       (0b00011001_0011_0000_0000_000000000000#32, .fpLd 3),
       (0b00011010_0000_0001_0000_000000000000#32, .fpSt 1)] = true := by decide +kernel

theorem test_decodeFp2 :
    decodesTo
      [(0b00100000_0011_0001_0010_000000000000#32, .fp2Add 3 1 2),
       (0b00100001_0011_0001_0010_000000000000#32, .fp2Sub 3 1 2),
       (0b00100010_0011_0001_0000_000000000000#32, .fp2Neg 3 1),
       (0b00100011_0011_0001_0010_000000000000#32, .fp2Mul 3 1 2),
       (0b00100100_0011_0001_0000_000000000000#32, .fp2Sqr 3 1),
       (0b00100101_0011_0001_0000_000000000000#32, .fp2Inv 3 1),
       (0b00100110_0000_0001_0010_000000000000#32, .fp2Eq 1 2),
       (0b00100111_0011_0000_0000_000000000000#32, .fp2Zero 3),
       (0b00101000_0011_0000_0000_000000000000#32, .fp2One 3),
       (0b00101001_0011_0000_0000_000000000000#32, .fp2Ld 3),
       (0b00101010_0000_0001_0000_000000000000#32, .fp2St 1)] = true := by decide +kernel

theorem test_decodeFp6 :
    decodesTo
      [(0b00110000_0011_0001_0010_000000000000#32, .fp6Add 3 1 2),
       (0b00110001_0011_0001_0010_000000000000#32, .fp6Sub 3 1 2),
       (0b00110010_0011_0001_0000_000000000000#32, .fp6Neg 3 1),
       (0b00110011_0011_0001_0010_000000000000#32, .fp6Mul 3 1 2),
       (0b00110100_0011_0001_0000_000000000000#32, .fp6Sqr 3 1),
       (0b00110101_0011_0001_0000_000000000000#32, .fp6Inv 3 1),
       (0b00110110_0000_0001_0010_000000000000#32, .fp6Eq 1 2),
       (0b00110111_0011_0000_0000_000000000000#32, .fp6Zero 3),
       (0b00111000_0011_0000_0000_000000000000#32, .fp6One 3),
       (0b00111001_0011_0000_0000_000000000000#32, .fp6Ld 3),
       (0b00111010_0000_0001_0000_000000000000#32, .fp6St 1)] = true := by decide +kernel

theorem test_decodeFp12 :
    decodesTo
      [(0b01000000_0011_0001_0010_000000000000#32, .fp12Add 3 1 2),
       (0b01000001_0011_0001_0010_000000000000#32, .fp12Sub 3 1 2),
       (0b01000010_0011_0001_0000_000000000000#32, .fp12Neg 3 1),
       (0b01000011_0011_0001_0010_000000000000#32, .fp12Mul 3 1 2),
       (0b01000100_0011_0001_0000_000000000000#32, .fp12Sqr 3 1),
       (0b01000101_0011_0001_0000_000000000000#32, .fp12Inv 3 1),
       (0b01000110_0000_0001_0010_000000000000#32, .fp12Eq 1 2),
       (0b01000111_0011_0000_0000_000000000000#32, .fp12Zero 3),
       (0b01001000_0011_0000_0000_000000000000#32, .fp12One 3),
       (0b01001001_0011_0000_0000_000000000000#32, .fp12Ld 3),
       (0b01001010_0000_0001_0000_000000000000#32, .fp12St 1)] = true := by decide +kernel

theorem test_decodeGt :
    decodesTo
      [(0b01010000_0011_0001_0010_000000000000#32, .gtMul 3 1 2),
       (0b01010001_0011_0001_0000_000000000000#32, .gtInv 3 1),
       (0b01010010_0011_0001_0010_000000000000#32, .gtExp 3 1 2),
       (0b01010011_0000_0001_0010_000000000000#32, .gtEq 1 2),
       (0b01010100_0000_0001_0000_000000000000#32, .gtIsOne 1),
       (0b01010101_0011_0000_0000_000000000000#32, .gtOne 3),
       (0b01010110_0000_0001_0000_000000000000#32, .gtSt 1),
       (0b01010111_0011_0001_0000_000000000000#32, .gtToFp12 3 1)] = true := by decide +kernel

theorem test_decodeG1 :
    decodesTo
      [(0b01100000_0011_0001_0010_000000000000#32, .g1Add 3 1 2),
       (0b01100001_0011_0001_0000_000000000000#32, .g1Dbl 3 1),
       (0b01100010_0011_0001_0000_000000000000#32, .g1Neg 3 1),
       (0b01100011_0000_0001_0000_000000000000#32, .g1IsOnCurve 1),
       (0b01100100_0000_0001_0000_000000000000#32, .g1IsId 1),
       (0b01100101_0000_0001_0010_000000000000#32, .g1Eq 1 2),
       (0b01100110_0000_0001_0000_000000000000#32, .g1ChkSub 1),
       (0b01100111_0011_0000_0000_000000000000#32, .g1SetId 3),
       (0b01101000_0011_0000_0000_000000000000#32, .g1Gen 3),
       (0b01101001_0011_0000_0000_000000000000#32, .g1Ld 3),
       (0b01101010_0000_0001_0000_000000000000#32, .g1St 1),
       (0b01101011_0011_0000_0000_000000000000#32, .g1Ldc 3),
       (0b01101100_0000_0001_0000_000000000000#32, .g1Stc 1),
       (0b01101101_0011_0001_0000_000000000000#32, .g1Mov 3 1),
       (0b01101110_0011_0001_0010_000000000000#32, .g1Smul 3 1 2)] = true := by decide +kernel

theorem test_decodeG2 :
    decodesTo
      [(0b01110000_0011_0001_0010_000000000000#32, .g2Add 3 1 2),
       (0b01110001_0011_0001_0000_000000000000#32, .g2Dbl 3 1),
       (0b01110010_0011_0001_0000_000000000000#32, .g2Neg 3 1),
       (0b01110011_0000_0001_0000_000000000000#32, .g2IsOnCurve 1),
       (0b01110100_0000_0001_0000_000000000000#32, .g2IsId 1),
       (0b01110101_0000_0001_0010_000000000000#32, .g2Eq 1 2),
       (0b01110110_0000_0001_0000_000000000000#32, .g2ChkSub 1),
       (0b01110111_0011_0000_0000_000000000000#32, .g2SetId 3),
       (0b01111000_0011_0000_0000_000000000000#32, .g2Gen 3),
       (0b01111001_0011_0000_0000_000000000000#32, .g2Ld 3),
       (0b01111010_0000_0001_0000_000000000000#32, .g2St 1),
       (0b01111011_0011_0000_0000_000000000000#32, .g2Ldc 3),
       (0b01111100_0000_0001_0000_000000000000#32, .g2Stc 1),
       (0b01111101_0011_0001_0000_000000000000#32, .g2Mov 3 1),
       (0b01111110_0011_0001_0010_000000000000#32, .g2Smul 3 1 2)] = true := by decide +kernel

theorem test_decodeScalar :
    decodesTo
      [(0b10000000_0011_0000_0000_000000000000#32, .kLd 3),
       (0b10000001_0011_0000_0000_000000000000#32, .kClr 3)] = true := by decide +kernel

theorem test_decodePairing :
    decodesTo
      [(0b10010000_0011_0001_0010_000000000000#32, .miller 3 1 2),
       (0b10010001_0011_0001_0000_000000000000#32, .finalExp 3 1),
       (0b10010010_0011_0001_0010_000000000000#32, .pair 3 1 2),
       (0b10010011_0011_0001_0010_000000000000#32, .mloMul 3 1 2),
       (0b10010100_0011_0000_0000_000000000000#32, .mloOne 3)] = true := by decide +kernel

theorem test_decodePairingCheck :
    decodesTo
      [(0b10100000_0000_0000_0000_000000000000#32, .pcClr),
       (0b10100001_0000_0001_0000_000000000000#32, .pcPush1 1),
       (0b10100010_0000_0001_0000_000000000000#32, .pcPush2 1),
       (0b10100011_0000_0000_0000_000000000000#32, .pcRun)] = true := by decide +kernel

/-! ## One step of each command -/

/-- The state a result goes to; the reset state where it stops. -/
def endOf : Result → State
  | .next t => t
  | .fault _ => State.reset
  | .refused _ => State.reset

/-- After reset, with `E1` and `E2` written. -/
def withE (a b : EVal) : State :=
  { State.reset with eregs := (State.reset.eregs.setIfInBounds 1 a).setIfInBounds 2 b }

/-- After reset, with `P1`, `P2` written and `K1 = k`. -/
def withP (A B : G1Point) (k : Nat) : State :=
  { State.reset with
    pregs := (State.reset.pregs.setIfInBounds 1 (some A)).setIfInBounds 2 (some B)
    kregs := State.reset.kregs.setIfInBounds 1 (some (BitVec.ofNat 256 k)) }

/-- After reset, with `Q1`, `Q2` written and `K1 = k`. -/
def withQ (A B : G2Point) (k : Nat) : State :=
  { State.reset with
    qregs := (State.reset.qregs.setIfInBounds 1 (some A)).setIfInBounds 2 (some B)
    kregs := State.reset.kregs.setIfInBounds 1 (some (BitVec.ofNat 256 k)) }

/-- After reset, with a byte string in the buffer and its length in `IOLEN`, as `IOWRITE` of R110 leaves them. -/
def withBuf (B : List Byte) : State :=
  { State.reset with mem := memWriteBytes [] 0x200 B, iolen := BitVec.ofNat 9 B.length }

/-- Register `E3` after a command. -/
def e3 (i : Instr) (s : State) : Option EVal := (endOf (exec i s)).eregs[3]?

/-- Register `P3` after a command. -/
def p3 (i : Instr) (s : State) : Option (Option G1Point) := (endOf (exec i s)).pregs[3]?

/-- Register `Q3` after a command. -/
def q3 (i : Instr) (s : State) : Option (Option G2Point) := (endOf (exec i s)).qregs[3]?

/-- `STATUS` and `ERRINFO` after a command. -/
def ends (i : Instr) (s : State) : Nat × Nat :=
  ((statusWord (endOf (exec i s)).status).toNat, (endOf (exec i s)).errinfo.toNat)

/-- The buffer string after a command. -/
def stores (i : Instr) (s : State) : List Byte :=
  (endOf (exec i s)).buffer 0 (endOf (exec i s)).iolen.toNat

def pMinus (n : Nat) : Fp := fpOfNat (Config.p - n)
def one6 : Fp6 := ⟨fp2OfNat 1 0, fp2OfNat 0 0, fp2OfNat 0 0⟩
def v6 : Fp6 := ⟨fp2OfNat 0 0, fp2OfNat 1 0, fp2OfNat 0 0⟩
def vv6 : Fp6 := ⟨fp2OfNat 0 0, fp2OfNat 0 0, fp2OfNat 1 0⟩
def zero6 : Fp6 := ⟨fp2OfNat 0 0, fp2OfNat 0 0, fp2OfNat 0 0⟩
def one12 : Fp12 := ⟨one6, zero6⟩
def omega12 : Fp12 := ⟨zero6, one6⟩
/-- `ξ⁻¹` (R146). -/
def xiInv : Fp2 :=
  fp2OfNat 0x2e9f1362305ea3ab50ca36acb4f65e7fa1928902b8ea81948e3855034733bbd1
    0x20753adca9c6bfb81499be5e509e8f8ff21b7c8d3cb039cf1ef69c66bce9b020
/-- `2G` (`95_test_vectors.md` section 4.1). -/
def twoG : G1Point :=
  .affine (fpOfNat 0x030644e72e131a029b85045b68181585d97816a916871ca8d3c208c16d87cfd3)
    (fpOfNat 0x15ed738c0e0a7c92e7845f96b2ae9c0a68a6a449e3538fc7ff3ebf7a5a18a2c4)
/-- `3G` (section 4.1). -/
def threeG : G1Point :=
  .affine (fpOfNat 0x0769bf9ac56bea3ff40232bcb1b6bd159315d84715b8e679f2d355961915abf0)
    (fpOfNat 0x2ab799bee0489429554fdb7c8d086475319e63b40b9c5b57cdf1ff3dd9fe2261)
/-- `2H` (section 4.2). -/
def twoH : G2Point :=
  .affine
    (fp2OfNat 0x27dc7234fd11d3e8c36c59277c3e6f149d5cd3cfa9a62aee49f8130962b4b3b9
      0x203e205db4f19b37b60121b83a7333706db86431c6d835849957ed8c3928ad79)
    (fp2OfNat 0x04bb53b8977e5f92a0bc372742c4830944a59b4fe6b1c0466e2a6dad122b5d2e
      0x195e8aa5b7827463722b8c153931579d3505566b4edf48d498e185f0509de152)
/-- `3H` (section 4.2). -/
def threeH : G2Point :=
  .affine
    (fp2OfNat 0x06064e784db10e9051e52826e192715e8d7e478cb09a5e0012defa0694fbc7f5
      0x1014772f57bb9742735191cd5dcfe4ebbc04156b6878a0a7c9824f32ffb66e85)
    (fp2OfNat 0x058e1d5681b5b9e0074b0f9c8d2c68a069b920d74521e79765036d57666c5597
      0x021e2335f3354bb7922ffcc2f38d3323dd9453ac49b55441452aeaca147711b2)
/-- The coordinates of `G2GEN` (R54). -/
def hx : Fp2 :=
  fp2OfNat 0x1800deef121f1e76426a00665e5c4479674322d4f75edadd46debd5cd992f6ed
    0x198e9393920d483a7260bfb731fb5d25f1aa493335a9e71297e485b7aef312c2
def hy : Fp2 :=
  fp2OfNat 0x12c85ea5db8c6deb4aab71808dcb408fe3d1e7690c43d37b4ce6cc0166fa7daa
    0x090689d0585ff075ec9e99ad690c3395bc4b313370b38ef355acdadcd122975b

/-! System (R350 to R352). -/

theorem test_nop : endOf (step (State.reset.withFetchWord 32 0)) =
    { State.reset with status := { statusReset with done := true }, intstat := 1 } := by decide +kernel
theorem test_zeroize : (endOf (exec .zeroize { withBuf [1, 2] with l1 := [g1Gen], inten := 3 })) = { State.reset with inten := 3, intstat := 1, status := { statusReset with done := true } } := by
  decide +kernel
theorem test_eMov : e3 (.eMov 3 1) (withE (.gt omega12) .empty) = some (.gt omega12) := by decide +kernel
theorem test_eMovEmpty : ends (.eMov 3 1) State.reset = (0x06, 0x0111) := by decide +kernel

/-! Fp (examples of R131 to R139, R323, R324). -/

theorem test_fpAdd : e3 (.fpAdd 3 1 2) (withE (.fp (pMinus 1)) (.fp (fpOfNat 2))) = some (.fp (fpOfNat 1)) := by decide +kernel
theorem test_fpSub : e3 (.fpSub 3 1 2) (withE (.fp (fpOfNat 1)) (.fp (fpOfNat 2))) = some (.fp (pMinus 1)) := by decide +kernel
theorem test_fpNeg : e3 (.fpNeg 3 1) (withE (.fp (fpOfNat 1)) .empty) = some (.fp (pMinus 1)) := by decide +kernel
theorem test_fpNegZero : e3 (.fpNeg 3 1) (withE (.fp (fpOfNat 0)) .empty) = some (.fp (fpOfNat 0)) := by decide +kernel
theorem test_fpMul : e3 (.fpMul 3 1 2) (withE (.fp (pMinus 1)) (.fp (pMinus 1))) = some (.fp (fpOfNat 1)) := by decide +kernel
theorem test_fpSqr : e3 (.fpSqr 3 1) (withE (.fp (pMinus 2)) .empty) = some (.fp (fpOfNat 4)) := by decide +kernel
theorem test_fpInv : e3 (.fpInv 3 1) (withE (.fp (fpOfNat 2)) .empty) =
    some (.fp (fpOfNat 0x183227397098d014dc2822db40c0ac2ecbc0b548b438e5469e10460b6c3e7ea4)) := by decide +kernel
theorem test_fpInvZero : ends (.fpInv 3 1) (withE (.fp (fpOfNat 0)) .empty) = (0x06, 0x05) := by decide +kernel
theorem test_fpEq : ends (.fpEq 1 2) (withE (.fp (fpOfNat 3)) (.fp (fpOfNat 3))) = (0x32, 0) := by decide +kernel
theorem test_fpEqDiffers : ends (.fpEq 1 2) (withE (.fp (fpOfNat 3)) (.fp (fpOfNat 4))) = (0x12, 0) := by decide +kernel
theorem test_fpZero : e3 (.fpZero 3) State.reset = some (.fp (fpOfNat 0)) := by decide +kernel
theorem test_fpOne : e3 (.fpOne 3) State.reset = some (.fp (fpOfNat 1)) := by decide +kernel
theorem test_fpLd : e3 (.fpLd 3) (withBuf (be32 (Config.p - 1))) = some (.fp (pMinus 1)) := by decide +kernel
theorem test_fpLdErrors : ends (.fpLd 3) (withBuf (List.replicate 10 1)) = (0x06, 0x0101) ∧
    ends (.fpLd 3) (withBuf (be32 Config.p)) = (0x06, 0x0201) := by decide +kernel
theorem test_fpSt : stores (.fpSt 1) (withE (.fp (fpOfNat 1)) .empty) = List.replicate 31 0 ++ [1] := by decide +kernel

/-! Fp2 (examples of R141 to R149, R325, R326). -/

theorem test_fp2Add : e3 (.fp2Add 3 1 2) (withE (.fp2 ⟨pMinus 1, fpOfNat 5⟩) (.fp2 ⟨fpOfNat 2, pMinus 5⟩)) = some (.fp2 (fp2OfNat 1 0)) := by
  decide +kernel
theorem test_fp2Sub : e3 (.fp2Sub 3 1 2) (withE (.fp2 (fp2OfNat 1 0)) (.fp2 (fp2OfNat 2 1))) = some (.fp2 ⟨pMinus 1, pMinus 1⟩) := by
  decide +kernel
theorem test_fp2Neg : e3 (.fp2Neg 3 1) (withE (.fp2 (fp2OfNat 0 1)) .empty) = some (.fp2 ⟨fpOfNat 0, pMinus 1⟩) := by decide +kernel
theorem test_fp2Mul : e3 (.fp2Mul 3 1 2) (withE (.fp2 (fp2OfNat 1 2)) (.fp2 (fp2OfNat 3 4))) = some (.fp2 ⟨pMinus 5, fpOfNat 10⟩) := by
  decide +kernel
theorem test_fp2Sqr : e3 (.fp2Sqr 3 1) (withE (.fp2 (fp2OfNat 1 2)) .empty) = some (.fp2 ⟨pMinus 3, fpOfNat 4⟩) := by decide +kernel
theorem test_fp2Inv : e3 (.fp2Inv 3 1) (withE (.fp2 (fp2OfNat 9 1)) .empty) = some (.fp2 xiInv) := by decide +kernel
theorem test_fp2Eq : ends (.fp2Eq 1 2) (withE (.fp2 (fp2OfNat 1 2)) (.fp2 (fp2OfNat 1 3))) = (0x12, 0) := by decide +kernel
theorem test_fp2Zero : e3 (.fp2Zero 3) State.reset = some (.fp2 (fp2OfNat 0 0)) := by decide +kernel
theorem test_fp2One : e3 (.fp2One 3) State.reset = some (.fp2 (fp2OfNat 1 0)) := by decide +kernel
theorem test_fp2Ld : e3 (.fp2Ld 3) (withBuf (be32 2 ++ be32 1)) = some (.fp2 (fp2OfNat 1 2)) := by decide +kernel
theorem test_fp2St : stores (.fp2St 1) (withE (.fp2 (fp2OfNat 1 2)) .empty) = be32 2 ++ be32 1 := by decide +kernel

/-! Fp6 (examples of R151 to R159, R312). -/

theorem test_fp6Add : e3 (.fp6Add 3 1 2) (withE (.fp6 v6) (.fp6 vv6)) = some (.fp6 ⟨fp2OfNat 0 0, fp2OfNat 1 0, fp2OfNat 1 0⟩) := by
  decide +kernel
theorem test_fp6Sub : e3 (.fp6Sub 3 1 2) (withE (.fp6 one6) (.fp6 v6)) =
    some (.fp6 ⟨fp2OfNat 1 0, ⟨pMinus 1, fpOfNat 0⟩, fp2OfNat 0 0⟩) := by decide +kernel
theorem test_fp6Neg : e3 (.fp6Neg 3 1) (withE (.fp6 v6) .empty) = some (.fp6 ⟨fp2OfNat 0 0, ⟨pMinus 1, fpOfNat 0⟩, fp2OfNat 0 0⟩) := by
  decide +kernel
theorem test_fp6Mul : e3 (.fp6Mul 3 1 2) (withE (.fp6 v6) (.fp6 vv6)) = some (.fp6 ⟨fp2OfNat 9 1, fp2OfNat 0 0, fp2OfNat 0 0⟩) := by
  decide +kernel
theorem test_fp6Sqr : e3 (.fp6Sqr 3 1) (withE (.fp6 vv6) .empty) = some (.fp6 ⟨fp2OfNat 0 0, fp2OfNat 9 1, fp2OfNat 0 0⟩) := by decide +kernel
theorem test_fp6Inv : e3 (.fp6Inv 3 1) (withE (.fp6 v6) .empty) = some (.fp6 ⟨fp2OfNat 0 0, fp2OfNat 0 0, xiInv⟩) := by decide +kernel
theorem test_fp6Eq : ends (.fp6Eq 1 2) (withE (.fp6 v6) (.fp6 vv6)) = (0x12, 0) := by decide +kernel
theorem test_fp6Zero : e3 (.fp6Zero 3) State.reset = some (.fp6 zero6) ∧ etag0Word (endOf (exec (.fp6Zero 3) State.reset)) = 0x3000 := by
  decide +kernel
theorem test_fp6One : e3 (.fp6One 3) State.reset = some (.fp6 one6) := by decide +kernel
theorem test_fp6Ld : e3 (.fp6Ld 3) (withBuf (be32 6 ++ be32 5 ++ be32 4 ++ be32 3 ++ be32 2 ++ be32 1)) =
    some (.fp6 ⟨fp2OfNat 1 2, fp2OfNat 3 4, fp2OfNat 5 6⟩) := by decide +kernel
theorem test_fp6St : stores (.fp6St 1) (withE (.fp6 ⟨fp2OfNat 1 2, fp2OfNat 3 4, fp2OfNat 5 6⟩) .empty) =
    be32 6 ++ be32 5 ++ be32 4 ++ be32 3 ++ be32 2 ++ be32 1 := by decide +kernel

/-! Fp12 (examples of R161 to R169, R313). -/

theorem test_fp12Add : e3 (.fp12Add 3 1 2) (withE (.fp12 one12) (.fp12 omega12)) = some (.fp12 ⟨one6, one6⟩) := by decide +kernel
theorem test_fp12Sub : e3 (.fp12Sub 3 1 2) (withE (.fp12 omega12) (.fp12 omega12)) = some (.fp12 ⟨zero6, zero6⟩) := by decide +kernel
theorem test_fp12Neg : e3 (.fp12Neg 3 1) (withE (.fp12 one12) .empty) =
    some (.fp12 ⟨⟨⟨pMinus 1, fpOfNat 0⟩, fp2OfNat 0 0, fp2OfNat 0 0⟩, zero6⟩) := by decide +kernel
theorem test_fp12Mul : e3 (.fp12Mul 3 1 2) (withE (.fp12 omega12) (.fp12 omega12)) = some (.fp12 ⟨v6, zero6⟩) := by decide +kernel
theorem test_fp12Sqr : e3 (.fp12Sqr 3 1) (withE (.fp12 ⟨one6, one6⟩) .empty) =
    some (.fp12 ⟨⟨fp2OfNat 1 0, fp2OfNat 1 0, fp2OfNat 0 0⟩, ⟨fp2OfNat 2 0, fp2OfNat 0 0, fp2OfNat 0 0⟩⟩) := by decide +kernel
theorem test_fp12Inv : e3 (.fp12Inv 3 1) (withE (.fp12 omega12) .empty) =
    some (.fp12 ⟨zero6, ⟨fp2OfNat 0 0, fp2OfNat 0 0, xiInv⟩⟩) := by decide +kernel
theorem test_fp12Eq : ends (.fp12Eq 1 2) (withE (.fp12 omega12) (.fp12 omega12)) = (0x32, 0) := by decide +kernel
theorem test_fp12RejectsGt : ends (.fp12Eq 1 2) (withE (.fp12 omega12) (.gt omega12)) = (0x06, 0x0212) := by decide +kernel
theorem test_fp12Zero : e3 (.fp12Zero 3) State.reset = some (.fp12 ⟨zero6, zero6⟩) := by decide +kernel
theorem test_fp12One : e3 (.fp12One 3) State.reset = some (.fp12 one12) := by decide +kernel
theorem test_fp12Ld : e3 (.fp12Ld 3) (withBuf (be32 12 ++ zeros 320 ++ be32 1)) =
    some (.fp12 ⟨⟨fp2OfNat 1 0, fp2OfNat 0 0, fp2OfNat 0 0⟩, ⟨fp2OfNat 0 0, fp2OfNat 0 0, fp2OfNat 0 12⟩⟩) := by decide +kernel
theorem test_fp12St : stores (.fp12St 1) (withE (.fp12 ⟨v6, vv6⟩) .empty) =
    be32 0 ++ be32 1 ++ zeros 192 ++ be32 0 ++ be32 1 ++ zeros 64 := by decide +kernel

/-! GT (R289 to R295, R331). -/

theorem test_gtMul : e3 (.gtMul 3 1 2) (withE (.gt omega12) (.gt omega12)) = some (.gt ⟨v6, zero6⟩) := by decide +kernel
theorem test_gtInv : e3 (.gtInv 3 1) (withE (.gt omega12) .empty) = some (.gt ⟨zero6, ⟨fp2OfNat 0 0, fp2OfNat 0 0, xiInv⟩⟩) := by decide +kernel
theorem test_gtExp : e3 (.gtExp 3 1 1) { withE (.gt omega12) .empty with kregs := State.reset.kregs.setIfInBounds 1 (some 2) } =
    some (.gt ⟨v6, zero6⟩) := by decide +kernel
theorem test_gtExpOrder : e3 (.gtExp 3 1 1)
    { withE (.gt omega12) .empty with kregs := State.reset.kregs.setIfInBounds 1 (some (BitVec.ofNat 256 groupOrder)) } =
      some (.gt one12) := by decide +kernel
theorem test_gtEq : ends (.gtEq 1 2) (withE (.gt omega12) (.gt one12)) = (0x12, 0) := by decide +kernel
theorem test_gtIsOne : ends (.gtIsOne 1) (withE (.gt one12) .empty) = (0x32, 0) ∧ ends (.gtIsOne 1) (withE (.gt omega12) .empty) = (0x12, 0) := by
  decide +kernel
theorem test_gtOne : e3 (.gtOne 3) State.reset = some (.gt one12) := by decide +kernel
theorem test_gtSt : stores (.gtSt 1) (withE (.gt one12) .empty) = List.replicate 383 0 ++ [1] := by decide +kernel
theorem test_gtToFp12 : e3 (.gtToFp12 3 1) (withE (.gt omega12) .empty) = some (.fp12 omega12) := by decide +kernel

/-! G1 (examples of R207 to R216, R332 to R335; `95_test_vectors.md` 4.1). -/

theorem test_g1Add : p3 (.g1Add 3 1 2) (withP (.affine (fpOfNat 1) (fpOfNat 2)) twoG 0) = some (some threeG) := by decide +kernel
theorem test_g1AddOpposite : p3 (.g1Add 3 1 2) (withP (.affine (fpOfNat 1) (fpOfNat 2)) (.affine (fpOfNat 1) (pMinus 2)) 0) =
    some (some .infinity) := by decide +kernel
theorem test_g1Dbl : p3 (.g1Dbl 3 1) (withP (.affine (fpOfNat 1) (fpOfNat 2)) .infinity 0) = some (some twoG) := by decide +kernel
theorem test_g1Neg : p3 (.g1Neg 3 1) (withP (.affine (fpOfNat 1) (fpOfNat 2)) .infinity 0) = some (some (.affine (fpOfNat 1) (pMinus 2))) := by
  decide +kernel
theorem test_g1IsOnCurve : ends (.g1IsOnCurve 1) (withP twoG .infinity 0) = (0x32, 0) ∧
    ends (.g1IsOnCurve 1) (withP (.affine (fpOfNat 1) (fpOfNat 3)) .infinity 0) = (0x12, 0) := by decide +kernel
theorem test_g1IsId : ends (.g1IsId 1) (withP twoG .infinity 0) = (0x12, 0) ∧ ends (.g1IsId 2) (withP twoG .infinity 0) = (0x32, 0) := by
  decide +kernel
theorem test_g1Eq : ends (.g1Eq 1 2) (withP .infinity twoG 0) = (0x12, 0) ∧ ends (.g1Eq 1 2) (withP twoG twoG 0) = (0x32, 0) := by decide +kernel
theorem test_g1ChkSub : ends (.g1ChkSub 1) (withP .infinity twoG 0) = (0x02, 0) ∧ ends (.g1ChkSub 5) (withP .infinity twoG 0) = (0x06, 0x0111) := by
  decide +kernel
theorem test_g1SetId : p3 (.g1SetId 3) State.reset = some (some .infinity) ∧ vtagWord (endOf (exec (.g1SetId 3) State.reset)) = 8 := by decide +kernel
theorem test_g1Gen : p3 (.g1Gen 3) State.reset = some (some (.affine (fpOfNat 1) (fpOfNat 2))) := by decide +kernel
theorem test_g1Ld : p3 (.g1Ld 3) (withBuf (be32 1 ++ be32 2)) = some (some (.affine (fpOfNat 1) (fpOfNat 2))) ∧
    p3 (.g1Ld 3) (withBuf (zeros 64)) = some (some .infinity) := by decide +kernel
theorem test_g1LdErrors : ends (.g1Ld 3) (withBuf (be32 1 ++ be32 3)) = (0x06, 0x02) ∧
    ends (.g1Ld 3) (withBuf (be32 (Config.p + 1) ++ be32 2)) = (0x06, 0x0201) ∧ ends (.g1Ld 3) (withBuf (be32 1)) = (0x06, 0x0101) := by decide +kernel
theorem test_g1St : stores (.g1St 1) (withP (.affine (fpOfNat 1) (fpOfNat 2)) .infinity 0) = be32 1 ++ be32 2 := by decide +kernel
theorem test_g1Ldc : p3 (.g1Ldc 3) (withBuf (be32 1)) = some (some (.affine (fpOfNat 1) (fpOfNat 2))) ∧
    p3 (.g1Ldc 3) (withBuf (be32 (2 ^ 255 + 1))) = some (some (.affine (fpOfNat 1) (pMinus 2))) := by decide +kernel
theorem test_g1LdcErrors : ends (.g1Ldc 3) (withBuf (be32 4)) = (0x06, 0x02) ∧ ends (.g1Ldc 3) (withBuf (be32 (2 ^ 255))) = (0x06, 0x02) := by
  decide +kernel
theorem test_g1Stc : stores (.g1Stc 1) (withP (.affine (fpOfNat 1) (pMinus 2)) .infinity 0) = 0x80 :: (zeros 30 ++ [1]) := by decide +kernel
theorem test_g1Mov : p3 (.g1Mov 3 1) (withP twoG .infinity 0) = some (some twoG) := by decide +kernel
theorem test_g1Smul : p3 (.g1Smul 3 1 1) (withP (.affine (fpOfNat 1) (fpOfNat 2)) .infinity 3) = some (some threeG) := by decide +kernel
theorem test_g1SmulOrder : p3 (.g1Smul 3 1 1) (withP twoG .infinity groupOrder) = some (some .infinity) := by decide +kernel

/-! G2 (R234 to R243, R336 to R339; `95_test_vectors.md` 4.2, 7.3). -/

theorem test_g2Add : q3 (.g2Add 3 1 2) (withQ (.affine hx hy) twoH 0) = some (some threeH) := by decide +kernel
theorem test_g2AddOpposite : q3 (.g2Add 3 1 2) (withQ (.affine hx hy) (.affine hx (fp2Neg hy)) 0) = some (some .infinity) := by decide +kernel
theorem test_g2Dbl : q3 (.g2Dbl 3 1) (withQ (.affine hx hy) .infinity 0) = some (some twoH) := by decide +kernel
theorem test_g2Neg : q3 (.g2Neg 3 1) (withQ (.affine (fp2OfNat 1 2) (fp2OfNat 0 1)) .infinity 0) =
    some (some (.affine (fp2OfNat 1 2) ⟨fpOfNat 0, pMinus 1⟩)) := by decide +kernel
theorem test_g2IsOnCurve : ends (.g2IsOnCurve 1) (withQ twoH .infinity 0) = (0x32, 0) ∧
    ends (.g2IsOnCurve 1) (withQ (.affine hx hx) .infinity 0) = (0x12, 0) := by decide +kernel
theorem test_g2IsId : ends (.g2IsId 1) (withQ twoH .infinity 0) = (0x12, 0) ∧ ends (.g2IsId 2) (withQ twoH .infinity 0) = (0x32, 0) := by
  decide +kernel
theorem test_g2Eq : ends (.g2Eq 1 2) (withQ twoH .infinity 0) = (0x12, 0) ∧ ends (.g2Eq 1 2) (withQ twoH twoH 0) = (0x32, 0) := by decide +kernel
theorem test_g2ChkSub : ends (.g2ChkSub 1) (withQ .infinity twoH 0) = (0x02, 0) ∧ ends (.g2ChkSub 5) (withQ .infinity twoH 0) = (0x06, 0x0111) := by
  decide +kernel
theorem test_g2SetId : q3 (.g2SetId 3) State.reset = some (some .infinity) ∧ vtagWord (endOf (exec (.g2SetId 3) State.reset)) = 0x800 := by
  decide +kernel
theorem test_g2Gen : q3 (.g2Gen 3) State.reset = some (some (.affine hx hy)) := by decide +kernel
theorem test_g2Ld : q3 (.g2Ld 3) (withBuf (be32 hx.a1.val ++ be32 hx.a0.val ++ be32 hy.a1.val ++ be32 hy.a0.val)) =
    some (some (.affine hx hy)) := by decide +kernel
theorem test_g2LdErrors : ends (.g2Ld 3) (withBuf (be32 1 ++ zeros 96)) = (0x06, 0x02) ∧
    ends (.g2Ld 3) (withBuf (zeros 96 ++ be32 Config.p)) = (0x06, 0x0201) := by decide +kernel
theorem test_g2St : stores (.g2St 1) (withQ (.affine hx hy) .infinity 0) =
    be32 hx.a1.val ++ be32 hx.a0.val ++ be32 hy.a1.val ++ be32 hy.a0.val := by decide +kernel
theorem test_g2Ldc : q3 (.g2Ldc 3) (withBuf (be32 hx.a1.val ++ be32 hx.a0.val)) = some (some (.affine hx hy)) := by decide +kernel
theorem test_g2LdcNoRoot : ends (.g2Ldc 3) (withBuf (0x80 :: zeros 63)) = (0x06, 0x02) := by decide +kernel
theorem test_g2Stc : stores (.g2Stc 1) (withQ (.affine hx hy) .infinity 0) = be32 hx.a1.val ++ be32 hx.a0.val := by decide +kernel
theorem test_g2StcSign : stores (.g2Stc 1) (withQ (.affine (fp2OfNat 7 0) (fp2OfNat 0 1)) .infinity 0) = (0x80 :: zeros 31) ++ be32 7 := by decide +kernel
theorem test_g2Mov : q3 (.g2Mov 3 1) (withQ twoH .infinity 0) = some (some twoH) := by decide +kernel
theorem test_g2Smul : q3 (.g2Smul 3 1 1) (withQ (.affine hx hy) .infinity 3) = some (some threeH) := by decide +kernel

/-! Scalars (R340, R341). -/

theorem test_kLd : (endOf (exec (.kLd 1) (withBuf (List.replicate 32 0xFF)))).kregs[1]? = some (some (BitVec.ofNat 256 (2 ^ 256 - 1))) := by decide +kernel
theorem test_kLdValid : vtagWord (endOf (exec (.kLd 1) (withBuf (be32 5)))) = 0x20000 := by decide +kernel
theorem test_kClr : (endOf (exec (.kClr 1) (withP .infinity .infinity 9))).kregs = State.reset.kregs := by decide +kernel

/-! Pairing (R284 to R288, R276, R277). -/

/-- The point `(1, 0)`: its first doubling step is degenerate (R272). -/
def yZero : G2Point := .affine (fp2OfNat 1 0) (fp2OfNat 0 0)

theorem test_millerIdentity : e3 (.miller 3 1 1) { withP .infinity .infinity 0 with qregs := (withQ yZero yZero 0).qregs } = some (.mlo one12) := by
  decide +kernel
theorem test_millerDegenerate : ends (.miller 3 1 1) { withP twoG .infinity 0 with qregs := (withQ yZero yZero 0).qregs } = (0x06, 0x0203) := by
  decide +kernel
theorem test_pairEmpty : ends (.pair 3 1 1) (withP twoG .infinity 0) = (0x06, 0x0211) := by decide +kernel
theorem test_finalExpZero : ends (.finalExp 3 1) (withE (.fp12 ⟨zero6, zero6⟩) .empty) = (0x06, 0x05) := by decide +kernel
theorem test_finalExpRejectsGt : ends (.finalExp 3 1) (withE (.gt one12) .empty) = (0x06, 0x0112) := by decide +kernel
theorem test_mloMul : e3 (.mloMul 3 1 2) (withE (.mlo omega12) (.mlo omega12)) = some (.mlo ⟨v6, zero6⟩) := by decide +kernel
theorem test_mloOne : e3 (.mloOne 3) State.reset = some (.mlo one12) := by decide +kernel

/-! PairingCheck (R302 to R305, R370). -/

theorem test_pcClr : (endOf (exec .pcClr { State.reset with l1 := [twoG], l2 := [twoH] })).l1 = [] := by decide +kernel
theorem test_pcPush1 : (endOf (exec (.pcPush1 1) { withP twoG .infinity 0 with l1 := [threeG] })).l1 = [threeG, twoG] := by decide +kernel
theorem test_pcPush1Full : ends (.pcPush1 1) { withP twoG .infinity 0 with l1 := List.replicate 8 twoG } = (0x06, 0x0113) := by decide +kernel
theorem test_pcPush2 : listcntWord (endOf (exec (.pcPush2 1) { withQ twoH .infinity 0 with l2 := List.replicate 7 twoH })) = 0x800 := by decide +kernel
theorem test_pcPush2Full : ends (.pcPush2 1) { withQ twoH .infinity 0 with l2 := List.replicate 8 twoH } = (0x06, 0x0213) := by decide +kernel
theorem test_pcRunMismatch : ends .pcRun { State.reset with l1 := [twoG], l2 := [] } = (0x06, 0x04) := by decide +kernel
theorem test_pcRunLowestIndex : ends .pcRun { State.reset with l1 := [.infinity, twoG, twoG], l2 := [yZero, yZero, yZero] } = (0x06, 0x010203) := by
  decide +kernel

/-! ## The slave port, the fatal state and interrupts (`95_test_vectors.md` 9.2, 9.3, 9.5) -/

/-- The state after one event. -/
def after (s : State) (ev : Input) : State := endOf (step { s with inputs := [ev] })

/-- Row 3 of 9.2, with `INTEN = 0xF` and `IOBUF[0..3] = 11 22 33 44`. -/
def busyState : State :=
  after (after (after State.reset (.write 0x020 32 0xF)) (.write 0x200 32 0x44332211)) (.write 0x018 32 0x18300000)

theorem test_bytesOfWord : busyState.buffer 0 4 = [0x11, 0x22, 0x33, 0x44] ∧ statusWord busyState.status = 1 := by decide +kernel
theorem test_blockedRead : (after busyState (.read 0x02C 32)).reply = some ⟨.okay, 0⟩ ∧ (after busyState (.read 0x02C 32)).intstat = 8 ∧
    irq (after busyState (.read 0x02C 32)) = true := by decide +kernel
theorem test_blockedCommand : (after busyState (.write 0x018 32 0x17300000)).cmd = 0x18300000 ∧
    (after busyState (.write 0x018 32 0x17300000)).intstat = 8 := by decide +kernel
theorem test_completion : etag0Word (after busyState .engine) = 0x1000 ∧ (after busyState .engine).intstat = 1 ∧
    (after (after busyState .engine) (.read 0x200 32)).reply = some ⟨.okay, 0x44332211⟩ := by decide +kernel
theorem test_softReset : after (after busyState .engine) (.write 0x00C 32 1) = { State.reset with reply := some ⟨.okay, 0⟩ } := by decide +kernel
theorem test_ids : (after State.reset (.read 0x000 32)).reply = some ⟨.okay, 0x424E5045⟩ ∧
    (after State.reset (.read 0x008 32)).reply = some ⟨.okay, 0x00822110⟩ := by decide +kernel
theorem test_mapEdges : (after State.reset (.read 0x1FC 32)).reply = some ⟨.slverr, 0⟩ ∧ (after State.reset (.read 0x37C 32)).reply = some ⟨.okay, 0⟩ ∧
    (after State.reset (.read 0x380 32)).reply = some ⟨.slverr, 0⟩ ∧ (after State.reset (.read 0x012 32)).reply = some ⟨.slverr, 0⟩ ∧
    (after State.reset (.read 0x010 16)).reply = some ⟨.slverr, 0⟩ := by decide +kernel
theorem test_iolenBits : (after (after State.reset (.write 0x01C 32 0xFFFFFFFF)) (.read 0x01C 32)).reply = some ⟨.okay, 0x1FF⟩ := by decide +kernel

/-- The words of table 9.3 that raise, with their `ERRINFO`. -/
theorem test_illegalWords :
    [(0x00000001, 0x0210), (0x00100000, 0x0210), (0x03000000, 0x0110), (0x1B000000, 0x0110), (0xFFFFFFFF, 0x0110), (0x6F000000, 0x0110),
      (0x18010000, 0x0210), (0x67800000, 0x0310), (0x77F00000, 0x0310), (0x81400000, 0x0310), (0x6E708000, 0x0310), (0x6E803000, 0x0310),
      (0x67801000, 0x0210), (0x90080000, 0x0310), (0x90007000, 0x0111), (0xA3100000, 0x0210)].all
      (fun c => (endOf (step (State.reset.withFetchWord 32 c.1))).errinfo.toNat == c.2) = true := by decide +kernel

/-- 9.5: a failure while `G1.SMUL` runs. -/
def fatalState : State :=
  after { withP twoG twoG 5 with inten := 4, cmd := 0x6E100000, status := { statusReset with busy := true }, mem := [(0x21F, 5)], iolen := 32 }
    .integrityFailure

theorem test_integrityFailure : fatalState =
    { State.reset with
      inten := 4, cmd := 0x6E100000, intstat := 7, errinfo := 0xFF
      status := { busy := false, done := true, err := true, fatal := true, tv := false, t := false } } := by decide +kernel
theorem test_fatalIgnores : after fatalState (.write 0x018 32 0) = { fatalState with reply := some ⟨.okay, 0⟩ } ∧
    after fatalState (.write 0x00C 32 1) = { fatalState with reply := some ⟨.okay, 0⟩ } ∧
    irq (after fatalState (.write 0x024 32 7)) = false ∧ after fatalState .hardwareReset = State.reset := by decide +kernel

/-! ## Witnesses: for each statement with hypotheses, a state and operands that meet them together, clause by clause -/

theorem witness_DecodeOfEncodeIsTheCommand : Instr.wellFormed (.g1Smul 7 7 3) = true ∧ Instr.wellFormed (.fpAdd 15 15 15) = true := by
  decide +kernel
theorem witness_DecodedWordIsTheEncoding : decode 0x6E773000#32 = .ok (.g1Smul 7 7 3) ∧ decode 0#32 = .ok .nop := by decide +kernel
theorem witness_IllegalWordsAreRefusedByCause :
    (decode 0x03000000#32 = .error .reservedOpcode ∧ decode 0xFFFFFFFF#32 = .error .reservedOpcode) ∧
    ((∃ f ∈ opcodeFormats, (0x60800001#32).toNat / 2 ^ 24 ∈ f.opcodes) ∧ decode 0x60800001#32 = .error .nonZeroField ∧
      decode 0x00000800#32 = .error .nonZeroField ∧ decode 0x00100000#32 = .error .nonZeroField) ∧
    (decode 0x60800000#32 = .error .indexOutOfRange ∧ decode 0x80400000#32 = .error .indexOutOfRange ∧
      decode 0x6E004000#32 = .error .indexOutOfRange) ∧
    decode 0x6E773000#32 = .ok (.g1Smul 7 7 3) := by decide +kernel
theorem witness_StepRunsTheCommandInCmd :
    ((State.reset.withFetchWord 32 0x18F00000).inputs = [] ∧ (State.reset.withFetchWord 32 0x18F00000).status.busy = true ∧
      decode (State.reset.withFetchWord 32 0x18F00000).cmd = .ok (.fpOne 15)) ∧
    (busyState.status.busy = true ∧ decode busyState.cmd = .ok (.fpOne 3)) ∧
    ((State.reset.withFetchWord 32 1).inputs = [] ∧ (State.reset.withFetchWord 32 1).status.busy = true ∧
      decode (State.reset.withFetchWord 32 1).cmd = .error .nonZeroField) ∧
    (State.reset.inputs = [] ∧ State.reset.status.busy = false) := by decide +kernel
theorem witness_SystemCommandsComplete : (withE (.fp (fpOfNat 3)) .empty).holdsE 1 (.fp (fpOfNat 3)) ∧ EVal.fp (fpOfNat 3) ≠ .empty := by
  decide +kernel
theorem witness_FpArithmetic : (withE (.fp (pMinus 1)) (.fp (fpOfNat 0))).holdsE 1 (.fp (pMinus 1)) ∧
    (withE (.fp (pMinus 1)) (.fp (fpOfNat 0))).holdsE 2 (.fp (fpOfNat 0)) := by decide +kernel
theorem witness_FpInverse : ((withE (.fp (pMinus 1)) .empty).holdsE 1 (.fp (pMinus 1)) ∧ (pMinus 1).val ≠ 0) ∧
    ((withE (.fp (fpOfNat 0)) .empty).holdsE 1 (.fp (fpOfNat 0)) ∧ (fpOfNat 0).val = 0) := by decide +kernel
theorem witness_Fp2Arithmetic : (withE (.fp2 (fp2OfNat 1 2)) (.fp2 xiInv)).holdsE 1 (.fp2 (fp2OfNat 1 2)) ∧
    (withE (.fp2 (fp2OfNat 1 2)) (.fp2 xiInv)).holdsE 2 (.fp2 xiInv) := by decide +kernel
theorem witness_Fp2Inverse : ((withE (.fp2 (fp2OfNat 0 1)) .empty).holdsE 1 (.fp2 (fp2OfNat 0 1)) ∧
      ¬ ((fp2OfNat 0 1).a0.val = 0 ∧ (fp2OfNat 0 1).a1.val = 0)) ∧
    ((withE (.fp2 (fp2OfNat 0 0)) .empty).holdsE 1 (.fp2 (fp2OfNat 0 0)) ∧
      (fp2OfNat 0 0).a0.val = 0 ∧ (fp2OfNat 0 0).a1.val = 0) := by decide +kernel
theorem witness_Fp6AndFp12Arithmetic : ((withE (.fp6 v6) (.fp6 vv6)).holdsE 1 (.fp6 v6) ∧ (withE (.fp6 v6) (.fp6 vv6)).holdsE 2 (.fp6 vv6)) ∧
    ((withE (.fp12 omega12) (.fp12 one12)).holdsE 1 (.fp12 omega12) ∧ (withE (.fp12 omega12) (.fp12 one12)).holdsE 2 (.fp12 one12)) := by
  decide +kernel
theorem witness_Fp6AndFp12Inverse : ((withE (.fp6 v6) .empty).holdsE 1 (.fp6 v6) ∧ v6 ≠ fp6Zero) ∧
    ((withE (.fp6 zero6) .empty).holdsE 1 (.fp6 zero6) ∧ zero6 = fp6Zero) ∧
    ((withE (.fp12 omega12) .empty).holdsE 1 (.fp12 omega12) ∧ omega12 ≠ fp12Zero) ∧
    ((withE (.fp12 ⟨zero6, zero6⟩) .empty).holdsE 1 (.fp12 ⟨zero6, zero6⟩) ∧ (⟨zero6, zero6⟩ : Fp12) = fp12Zero) := by decide +kernel
theorem witness_EqualityTests :
    ((withE (.fp (fpOfNat 3)) (.fp (fpOfNat 4))).holdsE 1 (.fp (fpOfNat 3)) ∧ (withE (.fp (fpOfNat 3)) (.fp (fpOfNat 4))).holdsE 2 (.fp (fpOfNat 4))) ∧
    ((withE (.fp2 xiInv) (.fp2 xiInv)).holdsE 1 (.fp2 xiInv) ∧ (withE (.fp2 xiInv) (.fp2 xiInv)).holdsE 2 (.fp2 xiInv)) ∧
    ((withE (.fp6 v6) (.fp6 vv6)).holdsE 1 (.fp6 v6) ∧ (withE (.fp6 v6) (.fp6 vv6)).holdsE 2 (.fp6 vv6)) ∧
    ((withE (.fp12 omega12) (.fp12 one12)).holdsE 1 (.fp12 omega12) ∧ (withE (.fp12 omega12) (.fp12 one12)).holdsE 2 (.fp12 one12)) ∧
    ((withE (.gt omega12) (.gt one12)).holdsE 1 (.gt omega12) ∧ (withE (.gt omega12) (.gt one12)).holdsE 2 (.gt one12)) := by decide +kernel
theorem witness_ConstantCommands : (7 : RegIdx).toNat < 8 := by decide +kernel
theorem witness_FieldLoads :
    ((withBuf (be32 (Config.p - 1))).iolen = 32#9 ∧ (withBuf (be32 (Config.p - 1))).blocksAre [pMinus 1]) ∧
    ((withBuf (be32 2 ++ be32 1)).iolen = 64#9 ∧ (withBuf (be32 2 ++ be32 1)).blocksAre [fpOfNat 2, fpOfNat 1]) ∧
    ((withBuf (zeros 160 ++ be32 1)).iolen = 192#9 ∧ (withBuf (zeros 160 ++ be32 1)).blocksAre one6.coords) ∧
    ((withBuf (zeros 352 ++ be32 1)).iolen = 384#9 ∧ (withBuf (zeros 352 ++ be32 1)).blocksAre one12.coords) ∧
    ((withBuf (be32 Config.p)).iolen = 32#9 ∧ Config.p ≤ (withBuf (be32 Config.p)).block 0) ∧
    ((withBuf (zeros 32 ++ be32 Config.p)).iolen = 64#9 ∧ Config.p ≤ (withBuf (zeros 32 ++ be32 Config.p)).block 1) ∧
    ((withBuf (zeros 160 ++ be32 Config.p)).iolen = 192#9 ∧ Config.p ≤ (withBuf (zeros 160 ++ be32 Config.p)).block 5) ∧
    ((withBuf (zeros 352 ++ be32 Config.p)).iolen = 384#9 ∧ Config.p ≤ (withBuf (zeros 352 ++ be32 Config.p)).block 11) := by decide +kernel
theorem witness_FieldStores : memWf (withE (.fp (pMinus 1)) (.gt one12)).mem = true ∧
    (withE (.fp (pMinus 1)) (.gt one12)).holdsE 1 (.fp (pMinus 1)) ∧ (withE (.fp (pMinus 1)) (.gt one12)).holdsE 2 (.gt one12) ∧
    (withE (.fp2 xiInv) (.fp6 v6)).holdsE 1 (.fp2 xiInv) ∧ (withE (.fp2 xiInv) (.fp6 v6)).holdsE 2 (.fp6 v6) ∧
    (withE (.fp12 omega12) .empty).holdsE 1 (.fp12 omega12) := by decide +kernel
/-- `(0, 1)` and `(0, 0)` are on no curve; the group law is stated for every pair of coordinates. -/
theorem witness_G1AdditionAndDoubling : (7 : PIdx).toNat < 8 ∧
    ((withP twoG .infinity 0).holdsP 1 twoG ∧ (withP twoG .infinity 0).holdsP 2 .infinity) ∧
    ((withP .infinity twoG 0).holdsP 1 .infinity ∧ (withP .infinity twoG 0).holdsP 2 twoG) ∧
    ((withP (.affine (fpOfNat 1) (fpOfNat 2)) (.affine (fpOfNat 0) (fpOfNat 1)) 0).holdsP 1 (.affine (fpOfNat 1) (fpOfNat 2)) ∧
      (withP (.affine (fpOfNat 1) (fpOfNat 2)) (.affine (fpOfNat 0) (fpOfNat 1)) 0).holdsP 2 (.affine (fpOfNat 0) (fpOfNat 1)) ∧
      fpOfNat 1 ≠ fpOfNat 0) ∧
    ((withP (.affine (fpOfNat 1) (fpOfNat 2)) (.affine (fpOfNat 1) (pMinus 2)) 0).holdsP 1 (.affine (fpOfNat 1) (fpOfNat 2)) ∧
      (withP (.affine (fpOfNat 1) (fpOfNat 2)) (.affine (fpOfNat 1) (pMinus 2)) 0).holdsP 2 (.affine (fpOfNat 1) (pMinus 2)) ∧
      fpOfNat 2 ≠ pMinus 2) ∧
    ((withP twoG twoG 0).holdsP 1 twoG ∧ (withP twoG twoG 0).holdsP 2 twoG) ∧
    ((withP (.affine (fpOfNat 0) (fpOfNat 0)) (.affine (fpOfNat 0) (fpOfNat 0)) 0).holdsP 1 (.affine (fpOfNat 0) (fpOfNat 0)) ∧
      (withP (.affine (fpOfNat 0) (fpOfNat 0)) (.affine (fpOfNat 0) (fpOfNat 0)) 0).holdsP 2 (.affine (fpOfNat 0) (fpOfNat 0))) := by
  decide +kernel
theorem witness_G1MovesAndTests : ((withP twoG .infinity 0).holdsP 1 twoG ∧ (withP twoG .infinity 0).holdsP 2 .infinity) ∧
    inSubgroup1 .infinity = true := by decide +kernel
theorem witness_G2AdditionAndDoubling : (7 : QIdx).toNat < 8 ∧
    ((withQ twoH .infinity 0).holdsQ 1 twoH ∧ (withQ twoH .infinity 0).holdsQ 2 .infinity) ∧
    ((withQ .infinity twoH 0).holdsQ 1 .infinity ∧ (withQ .infinity twoH 0).holdsQ 2 twoH) ∧
    ((withQ (.affine hx hy) yZero 0).holdsQ 1 (.affine hx hy) ∧ (withQ (.affine hx hy) yZero 0).holdsQ 2 yZero ∧ hx ≠ fp2OfNat 1 0) ∧
    ((withQ (.affine hx hy) (.affine hx (fp2Neg hy)) 0).holdsQ 1 (.affine hx hy) ∧
      (withQ (.affine hx hy) (.affine hx (fp2Neg hy)) 0).holdsQ 2 (.affine hx (fp2Neg hy)) ∧ hy ≠ fp2Neg hy) ∧
    ((withQ twoH twoH 0).holdsQ 1 twoH ∧ (withQ twoH twoH 0).holdsQ 2 twoH) ∧
    ((withQ yZero yZero 0).holdsQ 1 yZero ∧ (withQ yZero yZero 0).holdsQ 2 yZero) := by decide +kernel
theorem witness_G2MovesAndTests : ((withQ twoH .infinity 0).holdsQ 1 twoH ∧ (withQ twoH .infinity 0).holdsQ 2 .infinity) ∧
    inSubgroup2 .infinity = true := by decide +kernel
/-- `(0, 2)`, off the curve, has order 3 under the law, which does not divide `r`; on the curve the G2 test can fail for real
(`95_test_vectors.md` section 4.3). -/
theorem witness_SubgroupTestFails : inSubgroup1 (.affine (fpOfNat 0) (fpOfNat 2)) = false ∧
    (withP (.affine (fpOfNat 0) (fpOfNat 2)) .infinity 0).holdsP 1 (.affine (fpOfNat 0) (fpOfNat 2)) ∧
    inSubgroup2 (.affine (fp2OfNat 0 0) (fp2OfNat 2 0)) = false ∧
    (withQ (.affine (fp2OfNat 0 0) (fp2OfNat 2 0)) .infinity 0).holdsQ 1 (.affine (fp2OfNat 0 0) (fp2OfNat 2 0)) := by decide +kernel
theorem witness_PointStores : memWf (withP twoG .infinity 0).mem = true ∧ (withP twoG .infinity 0).holdsP 1 twoG ∧
    (withP twoG .infinity 0).holdsP 2 .infinity ∧ memWf (withQ twoH .infinity 0).mem = true ∧ (withQ twoH .infinity 0).holdsQ 1 twoH ∧
    (withQ twoH .infinity 0).holdsQ 2 .infinity := by decide +kernel
theorem witness_G1Loads : (7 : PIdx).toNat < 8 ∧
    ((withBuf (zeros 64)).iolen = 64#9 ∧ (withBuf (zeros 64)).block 0 = 0 ∧ (withBuf (zeros 64)).block 1 = 0) ∧
    Config.p ≤ (withBuf (be32 0 ++ be32 Config.p)).block 1 ∧
    ((withBuf (be32 1 ++ be32 2)).blocksAre [fpOfNat 1, fpOfNat 2] ∧ (2 * 2) % Config.p = (1 * 1 * 1 + 3) % Config.p) ∧
    ((withBuf (be32 0 ++ be32 1)).blocksAre [fpOfNat 0, fpOfNat 1] ∧ (1 * 1) % Config.p ≠ (0 * 0 * 0 + 3) % Config.p) ∧
    ((withBuf (zeros 32)).iolen = 32#9 ∧ (withBuf (zeros 32)).block 0 = 0) ∧
    Config.p ≤ (withBuf (be32 (2 ^ 255 + Config.p))).block 0 % 2 ^ 255 ∧
    ((withBuf (be32 (2 ^ 255 + 1))).block 0 ≠ 0 ∧ (withBuf (be32 (2 ^ 255 + 1))).block 0 % 2 ^ 255 = (fpOfNat 1).val ∧
      (withBuf (be32 (2 ^ 255 + 1))).block 0 / 2 ^ 255 = (pMinus 2).val % 2 ∧
      ((pMinus 2).val * (pMinus 2).val) % Config.p = ((fpOfNat 1).val * (fpOfNat 1).val * (fpOfNat 1).val + 3) % Config.p) ∧
    ((withBuf (be32 4)).block 0 ≠ 0 ∧ (withBuf (be32 4)).block 0 % 2 ^ 255 = (fpOfNat 4).val) := by decide +kernel
theorem witness_G2Loads : (7 : QIdx).toNat < 8 ∧
    ((withBuf (zeros 128)).iolen = 128#9 ∧ (List.range 4).map (withBuf (zeros 128)).block = [0, 0, 0, 0]) ∧
    Config.p ≤ (withBuf (zeros 96 ++ be32 Config.p)).block 3 ∧
    ((withBuf (fpBlocks [hx.a1, hx.a0, hy.a1, hy.a0])).blocksAre [hx.a1, hx.a0, hy.a1, hy.a0] ∧ onCurve2 (.affine hx hy) = true) ∧
    ((withBuf (be32 1 ++ zeros 96)).blocksAre [fpOfNat 1, fpOfNat 0, fpOfNat 0, fpOfNat 0] ∧
      onCurve2 (.affine (fp2OfNat 0 1) fp2Zero) = false) ∧
    ((withBuf (zeros 64)).iolen = 64#9 ∧ (withBuf (zeros 64)).block 0 = 0 ∧ (withBuf (zeros 64)).block 1 = 0) ∧
    Config.p ≤ (withBuf (zeros 32 ++ be32 Config.p)).block 1 ∧
    (¬ ((withBuf (fpBlocks [hx.a1, hx.a0])).block 0 = 0 ∧ (withBuf (fpBlocks [hx.a1, hx.a0])).block 1 = 0) ∧
      (withBuf (fpBlocks [hx.a1, hx.a0])).block 0 % 2 ^ 255 = hx.a1.val ∧ (withBuf (fpBlocks [hx.a1, hx.a0])).block 1 = hx.a0.val ∧
      (withBuf (fpBlocks [hx.a1, hx.a0])).block 0 / 2 ^ 255 = (if hy.a0.val ≠ 0 then hy.a0.val % 2 else hy.a1.val % 2)) := by
  decide +kernel
theorem witness_EncodingRoundTrips : onCurve1 twoG = true ∧ onCurve2 twoH = true ∧
    (decFp (be32 1) = .ok (fpOfNat 1) ∧ (be32 1).length = 32) ∧ (decFp2 (be32 2 ++ be32 1) = .ok (fp2OfNat 1 2) ∧ (be32 2 ++ be32 1).length = 64) ∧
    (decFp6 (zeros 160 ++ be32 1) = .ok one6 ∧ (zeros 160 ++ be32 1).length = 192) ∧
    (decFp12 (zeros 352 ++ be32 1) = .ok one12 ∧ (zeros 352 ++ be32 1).length = 384) ∧
    (decG1 (be32 1 ++ be32 2) = .ok (.affine (fpOfNat 1) (fpOfNat 2)) ∧ decG1C (be32 1) = .ok (.affine (fpOfNat 1) (fpOfNat 2))) ∧
    (decG2 (zeros 128) = .ok .infinity ∧ (zeros 128).length = 128 ∧ decG2C (zeros 64) = .ok .infinity ∧ (zeros 64).length = 64) := by
  decide +kernel
theorem witness_ScalarMultiplicationIsRepeatedAddition :
    ((withP twoG .infinity groupOrder).holdsP 1 twoG ∧ (withP twoG .infinity groupOrder).holdsK 1 (BitVec.ofNat 256 groupOrder) ∧
      onCurve1 twoG = true) ∧
    ((withQ twoH .infinity 5).holdsQ 1 twoH ∧ (withQ twoH .infinity 5).holdsK 1 5 ∧ onCurve2 twoH = true) := by decide +kernel
theorem witness_ScalarMultiplicationSpecialCases :
    ((withP .infinity twoG groupOrder).holdsP 1 .infinity ∧ (withP .infinity twoG groupOrder).holdsP 2 twoG ∧
      (withP .infinity twoG groupOrder).holdsK 1 (BitVec.ofNat 256 groupOrder) ∧ (BitVec.ofNat 256 groupOrder).toNat % groupOrder = 0) ∧
    ((withQ .infinity twoH (groupOrder + 1)).holdsQ 1 .infinity ∧ (withQ .infinity twoH (groupOrder + 1)).holdsQ 2 twoH ∧
      (withQ .infinity twoH (groupOrder + 1)).holdsK 1 (BitVec.ofNat 256 (groupOrder + 1)) ∧
      (BitVec.ofNat 256 (groupOrder + 1)).toNat % groupOrder = 1) := by decide +kernel
theorem witness_ScalarRegisterCommands : (3 : KIdx).toNat < 4 ∧ (withBuf (List.replicate 32 0xFF)).iolen = 32#9 := by decide +kernel
theorem witness_GtCommands : (withE (.gt omega12) (.gt one12)).holdsE 1 (.gt omega12) ∧ (withE (.gt omega12) (.gt one12)).holdsE 2 (.gt one12) ∧
    ({ withE (.gt omega12) .empty with kregs := (withP twoG twoG 7).kregs } : State).holdsK 1 7 := by decide +kernel

/-- `P1 = A`, `Q1 = B`. -/
def withPQ (A : G1Point) (B : G2Point) : State := { withP A .infinity 0 with qregs := (withQ B .infinity 0).qregs }

theorem witness_MillerLoopEvaluatesTheLines :
    ((withPQ .infinity twoH).holdsP 1 .infinity ∧ (withPQ .infinity twoH).holdsQ 1 twoH) ∧
    (hy ≠ fp2Zero ∧ hx ≠ fp2OfNat 1 0) ∧
    ((withPQ twoG (.affine hx hy)).holdsP 1 twoG ∧ (withPQ twoG (.affine hx hy)).holdsQ 1 (.affine hx hy) ∧
      ∃ cs, walkLines (.affine hx hy) (ateSteps hx hy) = .ok cs) ∧
    ((withPQ twoG yZero).holdsP 1 twoG ∧ (withPQ twoG yZero).holdsQ 1 yZero ∧
      walkLines yZero (ateSteps (fp2OfNat 1 0) (fp2OfNat 0 0)) = .error (.degenerateStep 0)) := by
  refine ⟨by decide +kernel, by decide +kernel, ⟨by decide +kernel, by decide +kernel, ?_⟩, by decide +kernel, by decide +kernel,
    by decide +kernel⟩
  have h : (walkLines (.affine hx hy) (ateSteps hx hy)).isOk = true := by decide +kernel
  cases hc : walkLines (.affine hx hy) (ateSteps hx hy) with
  | ok cs => exact ⟨cs, rfl⟩
  | error e => rw [hc] at h; simp [Except.isOk, Except.toBool] at h
theorem witness_FinalExponentiation : ((withE (.mlo omega12) (.mlo one12)).holdsE 1 (.mlo omega12) ∧
      (withE (.mlo omega12) (.mlo one12)).holdsE 2 (.mlo one12) ∧ omega12 ≠ fp12Zero) ∧
    ((withE (.fp12 fp12Zero) .empty).holdsE 1 (.fp12 fp12Zero)) := by decide +kernel
theorem witness_ListCommands :
    ((withPQ twoG twoH).holdsP 1 twoG ∧ (withPQ twoG twoH).holdsQ 1 twoH ∧ (withPQ twoG twoH).l1.length < 8 ∧ (withPQ twoG twoH).l2.length < 8) ∧
    (({ withPQ twoG twoH with l1 := List.replicate 8 twoG, l2 := List.replicate 8 twoH } : State).l1.length = 8 ∧
      ({ withPQ twoG twoH with l1 := List.replicate 8 twoG, l2 := List.replicate 8 twoH } : State).l2.length = 8) := by decide +kernel

/-- Lists `[O, 2G]` and `[yZero, yZero]`: the second pair is degenerate. -/
def lists2 : State := { State.reset with l1 := [.infinity, twoG], l2 := [yZero, yZero] }

theorem witness_PairingCheckRun :
    (({ lists2 with l2 := [] } : State).l1.length ≠ ({ lists2 with l2 := [] } : State).l2.length) ∧
    (∀ (i : Nat) (A : G1Point) (B : G2Point) (f : Fp12), [Point.infinity][i]? = some A → [yZero][i]? = some B → [fp12One][i]? = some f →
      miller A B = .ok f) ∧
    (lists2.l1.length = lists2.l2.length ∧ lists2.l1[1]? = some twoG ∧ lists2.l2[1]? = some yZero ∧
      miller twoG yZero = .error (.degenerateStep 0) ∧
      ∀ j C D, j < 1 → lists2.l1[j]? = some C → lists2.l2[j]? = some D → ∃ f, miller C D = .ok f) := by
  refine ⟨by decide, ?_, rfl, rfl, rfl, rfl, ?_⟩
  · intro i A B f hA hB hf
    cases i with
    | zero =>
      cases hA
      cases hB
      cases hf
      rfl
    | succ i => cases hA
  · intro j C D hj hC hD
    have hj0 : j = 0 := by omega
    subst hj0
    cases hC
    cases hD
    exact ⟨_, rfl⟩
theorem witness_DatapathFormsAgree : fpOfNat 4 ≠ fpZero := by decide +kernel
theorem witness_ParameterFacts : (1 : Nat) ≤ 1 ∧ 1 ≤ 3 ∧ 5 ≤ 5 ∧ 0 < 11 ∧ 11 < 12 := by decide +kernel
theorem witness_IndexOutOfRangeRaises : Instr.wellFormed (.g1Smul 8 0 0) = false ∧ Instr.wellFormed (.kLd 4) = false := by decide +kernel

/-- The sources of `FP.ADD E3, E1, E2`. -/
def srcE1 : Source := .e 1 tagFp
def srcE2 : Source := .e 2 tagFp

theorem witness_OperandChecksInOrder :
    (Instr.wellFormed (.fpAdd 3 1 2) = true ∧ (commandFacts (.fpAdd 3 1 2)).srcA = some srcE1 ∧ (commandFacts (.fpAdd 3 1 2)).srcB = some srcE2) ∧
    srcE1.present State.reset = false ∧
    (srcE1.present (withE (.fp2 xiInv) .empty) = true ∧ srcE1.accepted (withE (.fp2 xiInv) .empty) = false) ∧
    (srcE1.ready (withE (.fp (pMinus 1)) .empty) = true ∧ srcE2.present (withE (.fp (pMinus 1)) .empty) = false) ∧
    (srcE1.ready (withE (.fp (pMinus 1)) (.gt one12)) = true ∧ srcE2.present (withE (.fp (pMinus 1)) (.gt one12)) = true ∧
      srcE2.accepted (withE (.fp (pMinus 1)) (.gt one12)) = false) := by decide +kernel
theorem witness_LoadLengthIsCheckedFirst : Instr.wellFormed (.g2Ld 7) = true ∧ (commandFacts (.g2Ld 7)).load = some 128 ∧
    (withBuf (zeros 64)).iolen.toNat ≠ 128 := by decide +kernel
theorem witness_ErrorCompletionIsPrecise : State.reset.status.busy = false ∧ State.reset.status.fatal = false ∧
    ∃ t, completeCommand (State.reset.accept 0x6F000000) = .next t ∧ t.status.err = true := ⟨rfl, rfl, _, rfl, rfl⟩
theorem witness_ExceptionsOfEachCommand : Instr.wellFormed .pcRun = true ∧ lists2.status.err = false ∧
    ∃ t, exec .pcRun lists2 = .next t ∧ t.status.err = true := ⟨rfl, rfl, _, rfl, rfl⟩
theorem witness_RegisterFrame : ∃ t, exec (.fpOne 3) (withE (.fp (pMinus 1)) .empty) = .next t ∧ (commandFacts (.fpOne 3)).erases = false ∧
    (commandFacts (.fpOne 3)).dest ≠ some (.e 4) := ⟨_, rfl, rfl, by decide⟩
theorem witness_MemoryFrame :
    (∃ t, exec (.fpOne 3) (withBuf [1]) = .next t ∧ (commandFacts (.fpOne 3)).erases = false ∧ (commandFacts (.fpOne 3)).store = false) ∧
    ∃ t, exec (.fpSt 1) (withE (.fp (pMinus 1)) .empty) = .next t ∧ (commandFacts (.fpSt 1)).erases = false ∧ (commandFacts (.fpSt 1)).store = true :=
  ⟨⟨_, rfl, rfl, rfl⟩, _, rfl, rfl, rfl⟩
theorem witness_TruthFlagWriters : (withP twoG .infinity 0).status.err = false ∧ (withP twoG .infinity 0).status.tv = false ∧
    (withP twoG .infinity 0).status.t = false ∧ ∃ t, exec (.g1IsId 1) (withP twoG .infinity 0) = .next t ∧ t.status.tv = true :=
  ⟨rfl, rfl, rfl, _, rfl, rfl⟩

/-- After reset, with these events to come. -/
def withInputs (evs : List Input) : State := { State.reset with inputs := evs }

theorem witness_UnmappedAccessIsSlverr : (0x038 ≤ (0x1FF : Addr).toNat ∧ (0x1FF : Addr).toNat ≤ 0x1FF) ∧ 0x380 ≤ (0x380 : Addr).toNat ∧
    (withInputs [.read 0x1FF 8]).inputs = [.read 0x1FF 8] ∧ (withInputs [.write 0x380 32 1]).inputs = [.write 0x380 32 1] := by decide +kernel
theorem witness_MisalignedAccessIsSlverr : (16 ≠ 32 ∨ (0x010 : Addr).toNat % 4 ≠ 0) ∧ (32 ≠ 32 ∨ (0x203 : Addr).toNat % 4 ≠ 0) ∧
    (withInputs [.read 0x010 16]).inputs = [.read 0x010 16] ∧ (withInputs [.write 0x203 32 1]).inputs = [.write 0x203 32 1] := by decide +kernel
theorem witness_ReadOnlyRegistersIgnoreWrites : (0x034#12 : Addr) ∈ [0x000#12, 0x034#12] ∧
    (withInputs [.write 0x034 32 9]).inputs = [.write 0x034 32 9] := by decide +kernel
theorem witness_WriteSideEffects : State.reset.status.busy = false ∧ State.reset.status.fatal = false ∧ memWf (withInputs []).mem = true ∧
    (0xFFFFFFFF#32).getLsbD 0 = true ∧ (0xFFFFFFFE#32).getLsbD 0 = false ∧
    (withInputs [.write (BitVec.ofNat 12 (0x200 + 4 * 95)) 32 5]).inputs = [.write 0x37C 32 5] := by decide +kernel
theorem witness_AccessesWhileBusy : busyState.status.busy = true ∧ busyState.status.fatal = false ∧
    (0x200 ≤ (0x37C : Addr).toNat ∧ (0x37C : Addr).toNat < 0x380 ∧ (0x37C : Addr).toNat % 4 = 0) ∧
    (withInputs [.read 0x37C 32]).inputs = [.read 0x37C 32] ∧
    (after busyState (.read 0x010 32)).reply = some ⟨.okay, 1⟩ ∧ (after busyState (.read 0x018 32)).reply = some ⟨.okay, 0x18300000⟩ := by
  decide +kernel
theorem witness_FatalIsAbsorbing : fatalState.status.fatal = true ∧ fatalState.status.busy = false ∧
    ∀ rest, fatalState.inputs ≠ .hardwareReset :: rest := ⟨by decide +kernel, by decide +kernel, fun rest h => by cases h⟩
theorem witness_BusLanesAreLittleEndian : 95 < 96 ∧ (withInputs []).status.busy = false ∧ (withInputs []).status.fatal = false ∧
    memWf (withInputs []).mem = true ∧
    (withInputs [.read (BitVec.ofNat 12 (0x200 + 4 * 95)) 32]).inputs = [.read 0x37C 32] := by decide +kernel
theorem witness_RegisterReads : (withPQ twoG twoH).status.busy = false ∧ (withPQ twoG twoH).l1.length ≤ 8 ∧
    (List.replicate 8 twoH).length ≤ 8 ∧ (withPQ twoG twoH).pregs[1]? = some (some twoG) ∧ (withPQ twoG twoH).eregs[15]? = some .empty := by
  decide +kernel
theorem witness_IntegrityFailureAndHardwareReset : (withInputs [.integrityFailure]).status.fatal = false ∧
    (withInputs [.integrityFailure]).inputs = [.integrityFailure] ∧ (withInputs [.hardwareReset]).inputs = [.hardwareReset] := by decide +kernel
/-- Whether an outcome is a next state with the property `p`. -/
def nextWith (p : State → Bool) : Host.Outcome State Fault Refusal → Bool
  | .next t => p t
  | _ => false

theorem nextWith_exists {p : State → Bool} {o : Host.Outcome State Fault Refusal} (h : nextWith p o = true) :
    ∃ t, o = .next t ∧ p t = true := by
  cases o with
  | next t => exact ⟨t, rfl, h⟩
  | fault _ => simp [nextWith] at h
  | refused _ => simp [nextWith] at h

theorem next_exists {o : Host.Outcome State Fault Refusal} (h : nextWith (fun _ => true) o = true) : ∃ t, o = .next t :=
  let ⟨t, ht, _⟩ := nextWith_exists h
  ⟨t, ht⟩

theorem witness_InterruptBitsAndLine :
    (∃ t, step ({ withInputs [.write 0x024 32 1] with intstat := 1 } : State) = .next t ∧ t.intstat.getLsbD 0 = false) ∧
    (∃ t, step (withInputs [.integrityFailure]) = .next t ∧ t.intstat.getLsbD 2 = true) ∧
    (∃ t, step (State.reset.withFetchWord 32 1) = .next t ∧ t.intstat.getLsbD 1 = true) ∧
    (∃ t, step ({ busyState with inputs := [.read 0x200 32] } : State) = .next t ∧ t.intstat.getLsbD 3 = true) :=
  ⟨⟨_, rfl, by decide +kernel⟩, ⟨_, rfl, by decide +kernel⟩, ⟨_, rfl, by decide +kernel⟩, ⟨_, rfl, by decide +kernel⟩⟩
/-- A word accepted with a point and the scalar `k` in the registers. -/
def smulState (k : Nat) (w : Word) : State := (withP twoG .infinity k).accept w

theorem witness_ValuesDoNotReachStatusOrTiming :
    (((commandFacts (.g1Smul 3 1 1)).raises.all (fun c => c.1 == 0x11) = true ∧
      (smulState 0 0x6E311000).sameKinds (smulState groupOrder 0x6E311000) ∧
      smulState 0 0x6E311000 ≠ smulState groupOrder 0x6E311000 ∧
      decode (smulState 0 0x6E311000).cmd = .ok (.g1Smul 3 1 1)) ∧
      (commandFacts (.g1Smul 3 1 1)).test = false ∧ (commandFacts (.g1IsId 1)).test = true) ∧
    (∃ t1 t2, completeCommand (State.reset.accept 0x18300000) = .next t1 ∧ completeCommand (busyState.accept 0x18F00000) = .next t2 ∧
      t1.status.err = false ∧ t2.status.err = false ∧
      (State.reset.accept 0x18300000).cmd.extractLsb' 24 8 = (busyState.accept 0x18F00000).cmd.extractLsb' 24 8 ∧
      (State.reset.accept 0x18300000).cmd.extractLsb' 24 8 ≠ 0xA3#8) ∧
    ∃ t, completeCommand (State.reset.accept 0xA3000000) = .next t ∧ t.status.err = false :=
  ⟨by decide +kernel, ⟨_, _, rfl, rfl, rfl, rfl, by decide +kernel, by decide +kernel⟩, _, rfl, rfl⟩
theorem witness_raisesByKindOnly : (commandFacts (.g1Smul 3 1 1)).raisesByKindOnly := by
  intro c hc
  have h : ∀ x ∈ (commandFacts (.g1Smul 3 1 1)).raises, x.1 = 0x11 := by decide +kernel
  exact Or.inl (h c hc)
theorem witness_StatusStaysLegal : ((State.reset.withFetchWord 32 1).statusLegal ∧ (State.reset.withFetchWord 32 1).fatalLegal ∧
      ∃ t, step (State.reset.withFetchWord 32 1) = .next t) ∧
    (fatalState.statusLegal ∧ fatalState.fatalLegal ∧ ∃ t, step fatalState = .next t) :=
  ⟨⟨by decide +kernel, by decide +kernel, next_exists (by decide +kernel)⟩, by decide +kernel, by decide +kernel,
    next_exists (by decide +kernel)⟩
theorem witness_StorageStaysLegal : busyState.storageLegal ∧ ∃ t, step busyState = .next t := ⟨by decide +kernel, next_exists (by decide +kernel)⟩
theorem witness_PointsStayOnCurve : ({ withPQ twoG twoH with l1 := [twoG], l2 := [.infinity] } : State).pointsOnCurve ∧
    ∃ t, step ((withPQ twoG twoH).withFetchWord 32 0x63010000) = .next t := ⟨by decide +kernel, next_exists (by decide +kernel)⟩
theorem witness_TagsStayLegal : (withE (.gt one12) (.mlo omega12)).pointsOnCurve ∧ (withE (.gt one12) (.mlo omega12)).tagsLegal ∧
    ∃ t, step ((withE (.gt one12) (.mlo omega12)).withFetchWord 32 0x51310000) = .next t := ⟨by decide +kernel, by decide +kernel, next_exists (by decide +kernel)⟩

end Sys2Proof.Tests
end

section
/-! SUPPORT. The levels of the model's tower read in Mathlib's rings: `Fp` in `ZMod p`, each level above as the quotient its defining
relation names (`10_state.md` R53). Every operation of the model is the ring's, and each reading is injective, so a ring law holds
in the model because it holds there. -/

namespace Sys2Proof.Machine

open Polynomial

/-! ## Powers by squaring -/

/-- `powLoop` multiplies in the power of the low `k` bits. -/
theorem map_powLoop {α M : Type} [Monoid M] {mul : α → α → α} {φ : α → M} (hmul : ∀ a b, φ (mul a b) = φ a * φ b)
    (k : Nat) (b : α) (e : Nat) (acc : α) (he : e < 2 ^ k) : φ (powLoop mul k b e acc) = φ acc * φ b ^ e := by
  induction k generalizing b e acc with
  | zero =>
    obtain rfl : e = 0 := by omega
    simp [powLoop]
  | succ k ih =>
    rw [powLoop, ih _ _ _ (by omega), hmul, ← pow_two, ← pow_mul]
    split
    · next hodd =>
      rw [hmul, mul_assoc, ← pow_succ']
      congr 2
      omega
    · next heven =>
      congr 2
      omega

/-- `powBy` is the power, read through any map that keeps products and the unit. -/
theorem map_powBy {α M : Type} [Monoid M] {mul : α → α → α} {one : α} {φ : α → M}
    (hmul : ∀ a b, φ (mul a b) = φ a * φ b) (hone : φ one = 1) (a : α) (e : Nat) :
    φ (powBy mul one a e) = φ a ^ e := by
  rw [powBy, map_powLoop hmul _ _ _ _ Nat.lt_log2_self, hone, one_mul]

/-! ## Fp -/

/-- The integers modulo `p`. -/
abbrev Zp := ZMod Config.p

/-- An Fp element as a residue. -/
def toZp (a : Fp) : Zp := (a.val : Zp)

@[simp] theorem toZp_ofNat (n : Nat) : toZp (fpOfNat n) = (n : Zp) := by simp [toZp, fpOfNat]

@[simp] theorem toZp_zero : toZp fpZero = 0 := by simp [fpZero]

@[simp] theorem toZp_one : toZp fpOne = 1 := by simp [fpOne]

@[simp] theorem toZp_add (a b : Fp) : toZp (fpAdd a b) = toZp a + toZp b := by
  rw [fpAdd, toZp_ofNat, Nat.cast_add]
  rfl

@[simp] theorem toZp_mul (a b : Fp) : toZp (fpMul a b) = toZp a * toZp b := by
  rw [fpMul, toZp_ofNat, Nat.cast_mul]
  rfl

@[simp] theorem toZp_neg (a : Fp) : toZp (fpNeg a) = -toZp a := by
  rw [fpNeg, toZp_ofNat, Nat.cast_sub a.isLt.le, ZMod.natCast_self, zero_sub]
  rfl

@[simp] theorem toZp_sub (a b : Fp) : toZp (fpSub a b) = toZp a - toZp b := by
  rw [fpSub, toZp_ofNat, Nat.cast_add, Nat.cast_sub b.isLt.le, ZMod.natCast_self, zero_sub, ← sub_eq_add_neg]
  rfl

@[simp] theorem toZp_pow (a : Fp) (e : Nat) : toZp (fpPow a e) = toZp a ^ e := map_powBy toZp_mul toZp_one a e

theorem toZp_injective : Function.Injective toZp := by
  intro a b h
  have hmod : a.val % Config.p = b.val % Config.p := (ZMod.natCast_eq_natCast_iff' _ _ _).1 h
  rwa [Nat.mod_eq_of_lt a.isLt, Nat.mod_eq_of_lt b.isLt, Fin.val_inj] at hmod

/-! ## Fp2 -/

/-- `Fp[u]/(u² + 1)`. -/
abbrev K2 := QuadraticAlgebra Zp (-1) 0

/-- An Fp2 element in `K2`. -/
def toK2 (a : Fp2) : K2 := ⟨toZp a.a0, toZp a.a1⟩

@[simp] theorem toK2_mk (a b : Fp) : toK2 ⟨a, b⟩ = ⟨toZp a, toZp b⟩ := rfl

theorem K2_nontrivial : Nontrivial K2 :=
  haveI : Fact (1 < Config.p) := ⟨by decide⟩
  inferInstance

/-- `ξ = 9 + u` in `K2`. -/
def xiK : K2 := ⟨9, 1⟩

@[simp] theorem toK2_ofNat (m n : Nat) : toK2 (fp2OfNat m n) = ⟨m, n⟩ := by simp [toK2, fp2OfNat]

@[simp] theorem toK2_zero : toK2 fp2Zero = 0 := by ext <;> simp [toK2, fp2Zero]

@[simp] theorem toK2_one : toK2 fp2One = 1 := by
  ext <;> simp [toK2, fp2One, QuadraticAlgebra.re_one, QuadraticAlgebra.im_one]

@[simp] theorem toK2_add (a b : Fp2) : toK2 (fp2Add a b) = toK2 a + toK2 b := by ext <;> simp [toK2, fp2Add]

@[simp] theorem toK2_neg (a : Fp2) : toK2 (fp2Neg a) = -toK2 a := by ext <;> simp [toK2, fp2Neg]

@[simp] theorem toK2_sub (a b : Fp2) : toK2 (fp2Sub a b) = toK2 a - toK2 b := by ext <;> simp [toK2, fp2Sub]

@[simp] theorem toK2_mul (a b : Fp2) : toK2 (fp2Mul a b) = toK2 a * toK2 b := by
  ext
  · simp [toK2, fp2Mul, sub_eq_add_neg]
  · simp [toK2, fp2Mul]

@[simp] theorem toK2_pow (a : Fp2) (e : Nat) : toK2 (fp2Pow a e) = toK2 a ^ e := map_powBy toK2_mul toK2_one a e

@[simp] theorem toK2_xi : toK2 xi = xiK := by simp [xi, xiK]

@[simp] theorem toK2_mulXi (a : Fp2) : toK2 (mulXi a) = toK2 a * xiK := by simp [mulXi]

theorem toK2_injective : Function.Injective toK2 := by
  intro a b h
  obtain ⟨h0, h1⟩ := QuadraticAlgebra.ext_iff.1 h
  exact congrArg₂ Fp2.mk (toZp_injective h0) (toZp_injective h1)

/-! ## Fp6 -/

/-- The defining polynomial `v³ - ξ`. -/
noncomputable abbrev vPoly : K2[X] := X ^ 3 - C xiK

/-- `Fp2[v]/(v³ - ξ)`. -/
noncomputable abbrev K6 := AdjoinRoot vPoly

/-- `v` in `K6`. -/
noncomputable def vK : K6 := AdjoinRoot.root vPoly

/-- An Fp2 element in `K6`. -/
noncomputable def ofK2 : K2 →+* K6 := AdjoinRoot.of vPoly

/-- An Fp6 element in `K6`. -/
noncomputable def toK6 (a : Fp6) : K6 := ofK2 (toK2 a.c0) + ofK2 (toK2 a.c1) * vK + ofK2 (toK2 a.c2) * vK ^ 2

@[simp] theorem toK6_mk (a b c : Fp2) :
    toK6 ⟨a, b, c⟩ = ofK2 (toK2 a) + ofK2 (toK2 b) * vK + ofK2 (toK2 c) * vK ^ 2 := rfl

theorem vPoly_monic : vPoly.Monic := monic_X_pow_sub_C xiK (by decide)

theorem vPoly_natDegree : vPoly.natDegree = 3 :=
  haveI := K2_nontrivial
  natDegree_X_pow_sub_C

/-- `v³ = ξ`. -/
theorem vK_pow_three : vK ^ 3 = ofK2 xiK := by
  have h := AdjoinRoot.eval₂_root vPoly
  rwa [eval₂_sub, eval₂_pow, eval₂_X, eval₂_C, sub_eq_zero] at h

@[simp] theorem toK6_zero : toK6 fp6Zero = 0 := by simp [toK6, fp6Zero]

@[simp] theorem toK6_one : toK6 fp6One = 1 := by simp [toK6, fp6One]

@[simp] theorem toK6_add (a b : Fp6) : toK6 (fp6Add a b) = toK6 a + toK6 b := by
  simp only [toK6, fp6Add, toK2_add, map_add]
  ring

@[simp] theorem toK6_neg (a : Fp6) : toK6 (fp6Neg a) = -toK6 a := by
  simp only [toK6, fp6Neg, toK2_neg, map_neg]
  ring

@[simp] theorem toK6_sub (a b : Fp6) : toK6 (fp6Sub a b) = toK6 a - toK6 b := by
  simp only [toK6, fp6Sub, toK2_sub, map_sub]
  ring

@[simp] theorem toK6_mul (a b : Fp6) : toK6 (fp6Mul a b) = toK6 a * toK6 b := by
  simp only [toK6, fp6Mul, toK2_add, toK2_mul, toK2_mulXi, map_add, map_mul, ← vK_pow_three]
  ring

@[simp] theorem toK6_mulV (a : Fp6) : toK6 (mulV a) = vK * toK6 a := by
  simp only [toK6, mulV, toK2_mulXi, map_mul, ← vK_pow_three]
  ring

/-- `1, v, v²` are independent. -/
theorem toK6_eq_zero {a : Fp6} (h : toK6 a = 0) : toK2 a.c0 = 0 ∧ toK2 a.c1 = 0 ∧ toK2 a.c2 = 0 := by
  have hmk : toK6 a = AdjoinRoot.mk vPoly (C (toK2 a.c2) * X ^ 2 + C (toK2 a.c1) * X + C (toK2 a.c0)) := by
    simp only [toK6, ofK2, vK, map_add, map_mul, map_pow, AdjoinRoot.mk_C, AdjoinRoot.mk_X]
    ring
  have hpoly : C (toK2 a.c2) * X ^ 2 + C (toK2 a.c1) * X + C (toK2 a.c0) = 0 := by
    by_contra hne
    refine AdjoinRoot.mk_ne_zero_of_natDegree_lt vPoly_monic hne ?_ (hmk ▸ h)
    rw [vPoly_natDegree]
    exact natDegree_quadratic_le.trans_lt (by decide)
  have hcoeff (n : Nat) := congrArg (fun q => coeff q n) hpoly
  exact ⟨by simpa using hcoeff 0, by simpa [coeff_C, coeff_X] using hcoeff 1, by simpa [coeff_C, coeff_X] using hcoeff 2⟩

theorem toK6_injective : Function.Injective toK6 := by
  intro a b h
  obtain ⟨h0, h1, h2⟩ := toK6_eq_zero (a := fp6Sub a b) (by rw [toK6_sub, h, sub_self])
  simp only [fp6Sub, toK2_sub, sub_eq_zero] at h0 h1 h2
  cases a
  cases b
  simp_all [toK2_injective.eq_iff]

/-! ## Fp12 -/

/-- `Fp6[ω]/(ω² - v)`. -/
noncomputable abbrev K12 := QuadraticAlgebra K6 vK 0

/-- An Fp12 element in `K12`. -/
noncomputable def toK12 (a : Fp12) : K12 := ⟨toK6 a.y, toK6 a.x⟩

@[simp] theorem toK12_mk (a b : Fp6) : toK12 ⟨a, b⟩ = ⟨toK6 a, toK6 b⟩ := rfl

@[simp] theorem toK12_zero : toK12 fp12Zero = 0 := by ext <;> simp [toK12, fp12Zero]

@[simp] theorem toK12_one : toK12 fp12One = 1 := by
  ext <;> simp [toK12, fp12One, QuadraticAlgebra.re_one, QuadraticAlgebra.im_one]

@[simp] theorem toK12_add (a b : Fp12) : toK12 (fp12Add a b) = toK12 a + toK12 b := by ext <;> simp [toK12, fp12Add]

@[simp] theorem toK12_neg (a : Fp12) : toK12 (fp12Neg a) = -toK12 a := by ext <;> simp [toK12, fp12Neg]

@[simp] theorem toK12_sub (a b : Fp12) : toK12 (fp12Sub a b) = toK12 a - toK12 b := by ext <;> simp [toK12, fp12Sub]

@[simp] theorem toK12_mul (a b : Fp12) : toK12 (fp12Mul a b) = toK12 a * toK12 b := by
  ext
  · simp [toK12, fp12Mul, mul_assoc]
  · simp [toK12, fp12Mul, add_comm]

@[simp] theorem toK12_pow (a : Fp12) (e : Nat) : toK12 (fp12Pow a e) = toK12 a ^ e := map_powBy toK12_mul toK12_one a e

theorem toK12_injective : Function.Injective toK12 := by
  intro a b h
  obtain ⟨hy, hx⟩ := QuadraticAlgebra.ext_iff.1 h
  exact congrArg₂ Fp12.mk (toK6_injective hy) (toK6_injective hx)

end Sys2Proof.Machine
end

section
/-! The tower is the quotient ring (`10_state.md` R53). -/

namespace Sys2Proof.Machine

/-- The ring laws of Fp12, read in `K12`. -/
theorem fp12_ring_laws (a b c : Fp12) :
    fp12Add a b = fp12Add b a ∧ fp12Add (fp12Add a b) c = fp12Add a (fp12Add b c) ∧ fp12Add a fp12Zero = a ∧
      fp12Mul a b = fp12Mul b a ∧ fp12Mul (fp12Mul a b) c = fp12Mul a (fp12Mul b c) ∧
      fp12Mul a (fp12Add b c) = fp12Add (fp12Mul a b) (fp12Mul a c) ∧ fp12Mul fp12One a = a ∧
      fp12Add a (fp12Neg a) = fp12Zero ∧ fp12Sub a b = fp12Add a (fp12Neg b) := by
  simp only [← toK12_injective.eq_iff, toK12_add, toK12_mul, toK12_neg, toK12_sub, toK12_zero, toK12_one]
  exact ⟨add_comm _ _, add_assoc _ _ _, add_zero _, mul_comm _ _, mul_assoc _ _ _, mul_add _ _ _, one_mul _,
    add_neg_cancel _, sub_eq_add_neg _ _⟩

/-- Fp in Fp2, and the basis `1, u`. -/
theorem fp2_over_fp (a b : Fp) :
    fp2Add ⟨a, fpZero⟩ ⟨b, fpZero⟩ = ⟨fpAdd a b, fpZero⟩ ∧ fp2Mul ⟨a, fpZero⟩ ⟨b, fpZero⟩ = ⟨fpMul a b, fpZero⟩ ∧
      fp2Add ⟨a, fpZero⟩ (fp2Mul ⟨b, fpZero⟩ ⟨fpZero, fpOne⟩) = ⟨a, b⟩ := by
  refine ⟨?_, ?_, ?_⟩ <;> apply toK2_injective <;> simp [QuadraticAlgebra.ext_iff]

/-- Fp2 in Fp6, and the basis `1, v, v²`. -/
theorem fp6_over_fp2 (a b c : Fp2) :
    fp6Add ⟨a, fp2Zero, fp2Zero⟩ ⟨b, fp2Zero, fp2Zero⟩ = ⟨fp2Add a b, fp2Zero, fp2Zero⟩ ∧
      fp6Mul ⟨a, fp2Zero, fp2Zero⟩ ⟨b, fp2Zero, fp2Zero⟩ = ⟨fp2Mul a b, fp2Zero, fp2Zero⟩ ∧
      ∀ v : Fp6, v = ⟨fp2Zero, fp2One, fp2Zero⟩ →
        fp6Add (fp6Add ⟨a, fp2Zero, fp2Zero⟩ (fp6Mul ⟨b, fp2Zero, fp2Zero⟩ v))
          (fp6Mul ⟨c, fp2Zero, fp2Zero⟩ (fp6Mul v v)) = ⟨a, b, c⟩ := by
  refine ⟨toK6_injective ?_, toK6_injective ?_, ?_⟩
  · simp
  · simp
  · rintro v rfl
    exact toK6_injective (by simp [pow_two])

/-- Fp6 in Fp12, and the basis `1, ω`. -/
theorem fp12_over_fp6 (a b : Fp6) :
    fp12Add ⟨a, fp6Zero⟩ ⟨b, fp6Zero⟩ = ⟨fp6Add a b, fp6Zero⟩ ∧
      fp12Mul ⟨a, fp6Zero⟩ ⟨b, fp6Zero⟩ = ⟨fp6Mul a b, fp6Zero⟩ ∧
      fp12Add ⟨a, fp6Zero⟩ (fp12Mul ⟨b, fp6Zero⟩ ⟨fp6Zero, fp6One⟩) = ⟨a, b⟩ := by
  refine ⟨?_, ?_, ?_⟩ <;> apply toK12_injective <;> simp [QuadraticAlgebra.ext_iff]

/-- `u² = -1`. -/
theorem u_squared : fp2Mul ⟨fpZero, fpOne⟩ ⟨fpZero, fpOne⟩ = fp2Neg fp2One := by
  apply toK2_injective
  simp [QuadraticAlgebra.ext_iff, QuadraticAlgebra.re_one, QuadraticAlgebra.im_one]

/-- `v³ = ξ`. -/
theorem v_cubed (v : Fp6) (hv : v = ⟨fp2Zero, fp2One, fp2Zero⟩) :
    fp6Mul v (fp6Mul v v) = ⟨fp2OfNat 9 1, fp2Zero, fp2Zero⟩ := by
  subst hv
  apply toK6_injective
  simpa [pow_succ', xiK] using vK_pow_three

/-- `ω² = v`. -/
theorem omega_squared (w : Fp12) (hw : w = ⟨fp6Zero, fp6One⟩) :
    fp12Mul w w = ⟨⟨fp2Zero, fp2One, fp2Zero⟩, fp6Zero⟩ := by
  subst hw
  apply toK12_injective
  simp

/-- Settles O13: the laws are read in `K12`, the bases level by level. -/
theorem towerIsTheQuotientRing : Obligations.TowerIsTheQuotientRing :=
  ⟨fun _ _ => ⟨rfl, rfl⟩, fp12_ring_laws, fp2_over_fp, fp6_over_fp2, fp12_over_fp6, ⟨rfl, rfl, rfl, rfl, rfl, rfl⟩,
    u_squared, v_cubed, omega_squared⟩

end Sys2Proof.Machine
end

section
/-! SUPPORT. `p` and `r` are prime (`10_state.md` R51, R56), by certificates of Lucas' test: a residue of order `n - 1` and the prime
factors of `n - 1`, certified the same way down to primes that trial division reaches. -/

namespace Sys2Proof.Machine

/- The certificates are long kernel evaluations: one at a time. -/
set_option Elab.async false

/-- `a^e mod n`, by the model's square-and-multiply. -/
def powMod (n a e : Nat) : Nat := powBy (fun x y => x * y % n) (1 % n) (a % n) e

theorem natCast_powMod (n a e : Nat) : (powMod n a e : ZMod n) = (a : ZMod n) ^ e := by
  have h := map_powBy (mul := fun x y => x * y % n) (one := 1 % n) (φ := fun x : Nat => (x : ZMod n))
    (by simp) (by simp) (a % n) e
  simpa [powMod] using h

theorem powMod_lt {n : Nat} (hn : 0 < n) (a e : Nat) : powMod n a e < n := by
  have key (k b e acc : Nat) (hacc : acc < n) : powLoop (fun x y => x * y % n) k b e acc < n := by
    induction k generalizing b e acc with
    | zero => exact hacc
    | succ k ih =>
      refine ih _ _ _ ?_
      split
      · exact Nat.mod_lt _ hn
      · exact hacc
  exact key _ _ _ _ (Nat.mod_lt _ hn)

/-- The certificate: `n - 1` is the product of the powers `q ^ k` listed, and `a` has order `n - 1` if every `q` is prime. -/
def lucasCertificate (n a : Nat) (factors : List (Nat × Nat)) : Bool :=
  decide (1 < n) && decide ((factors.map fun f => f.1 ^ f.2).prod = n - 1) && decide (powMod n a (n - 1) = 1) &&
    factors.all (fun f => decide (powMod n a ((n - 1) / f.1) ≠ 1))

theorem prime_of_lucasCertificate {n : Nat} (a : Nat) (factors : List (Nat × Nat))
    (hcert : lucasCertificate n a factors = true) (hprime : factors.Forall fun f => f.1.Prime) : n.Prime := by
  simp only [lucasCertificate, Bool.and_eq_true, decide_eq_true_eq, List.all_eq_true] at hcert
  obtain ⟨⟨⟨hn, hprod⟩, hone⟩, hne⟩ := hcert
  refine lucas_primality n (a : ZMod n) (by rw [← natCast_powMod, hone, Nat.cast_one]) fun q hq hdvd => ?_
  obtain ⟨m, hm, hdvd'⟩ := (Nat.Prime.prime hq).dvd_prod_iff.1 (hprod ▸ hdvd)
  obtain ⟨f, hmem, rfl⟩ := List.mem_map.1 hm
  obtain rfl := (Nat.prime_dvd_prime_iff_eq hq (List.forall_iff_forall_mem.1 hprime f hmem)).1 (hq.dvd_of_dvd_pow hdvd')
  rw [← natCast_powMod]
  intro h
  have hmod := (ZMod.natCast_eq_natCast_iff' _ 1 _).1 (by simpa using h)
  rw [Nat.mod_eq_of_lt (powMod_lt (by omega) _ _), Nat.mod_eq_of_lt hn] at hmod
  exact hne f hmem hmod

theorem prime_405928799 : Nat.Prime 405928799 :=
  prime_of_lucasCertificate 22
    [(2, 1), (11, 1), (3691, 1), (4999, 1)]
    (by decide +kernel)
    ⟨Nat.prime_two, by norm_num, by norm_num, by norm_num⟩

theorem prime_11465965001 : Nat.Prime 11465965001 :=
  prime_of_lucasCertificate 3
    [(2, 3), (5, 4), (7, 1), (327599, 1)]
    (by decide +kernel)
    ⟨Nat.prime_two, Nat.prime_five, by norm_num, by norm_num⟩

theorem prime_1853641 : Nat.Prime 1853641 :=
  prime_of_lucasCertificate 17
    [(2, 3), (3, 2), (5, 1), (19, 1), (271, 1)]
    (by decide +kernel)
    ⟨Nat.prime_two, Nat.prime_three, Nat.prime_five, by norm_num, by norm_num⟩

theorem prime_4562087 : Nat.Prime 4562087 :=
  prime_of_lucasCertificate 5
    [(2, 1), (17, 1), (109, 1), (1231, 1)]
    (by decide +kernel)
    ⟨Nat.prime_two, by norm_num, by norm_num, by norm_num⟩

theorem prime_173171039 : Nat.Prime 173171039 :=
  prime_of_lucasCertificate 13
    [(2, 1), (73, 1), (89, 1), (13327, 1)]
    (by decide +kernel)
    ⟨Nat.prime_two, by norm_num, by norm_num, by norm_num⟩

theorem prime_1263766531 : Nat.Prime 1263766531 :=
  prime_of_lucasCertificate 10
    [(2, 1), (3, 1), (5, 1), (13, 1), (911, 1), (3557, 1)]
    (by decide +kernel)
    ⟨Nat.prime_two, Nat.prime_three, Nat.prime_five, by norm_num, by norm_num, by norm_num⟩

theorem prime_35385462869 : Nat.Prime 35385462869 :=
  prime_of_lucasCertificate 2
    [(2, 2), (7, 1), (1263766531, 1)]
    (by decide +kernel)
    ⟨Nat.prime_two, by norm_num, prime_1263766531⟩

theorem prime_2480874801745591 : Nat.Prime 2480874801745591 :=
  prime_of_lucasCertificate 6
    [(2, 1), (3, 2), (5, 1), (19, 1), (41, 1), (35385462869, 1)]
    (by decide +kernel)
    ⟨Nat.prime_two, Nat.prime_three, Nat.prime_five, by norm_num, by norm_num, prime_35385462869⟩

theorem prime_13427688667394608761327070753331941386769 : Nat.Prime 13427688667394608761327070753331941386769 :=
  prime_of_lucasCertificate 17
    [(2, 4), (3, 1), (7, 1), (11, 1), (1853641, 1), (4562087, 1), (173171039, 1), (2480874801745591, 1)]
    (by decide +kernel)
    ⟨Nat.prime_two, Nat.prime_three, by norm_num, by norm_num, prime_1853641, prime_4562087, prime_173171039,
      prime_2480874801745591⟩

theorem prime_p : Nat.Prime Config.p :=
  prime_of_lucasCertificate 3
    [(2, 1), (3, 2), (13, 1), (29, 1), (67, 1), (229, 1), (311, 1), (983, 1), (11003, 1), (405928799, 1),
      (11465965001, 1), (13427688667394608761327070753331941386769, 1)]
    (by decide +kernel)
    ⟨Nat.prime_two, Nat.prime_three, by norm_num, by norm_num, by norm_num, by norm_num, by norm_num,
      by norm_num, by norm_num, prime_405928799, prime_11465965001, prime_13427688667394608761327070753331941386769⟩

theorem prime_12048837557 : Nat.Prime 12048837557 :=
  prime_of_lucasCertificate 2
    [(2, 2), (7, 2), (661, 1), (93001, 1)]
    (by decide +kernel)
    ⟨Nat.prime_two, by norm_num, by norm_num, by norm_num⟩

theorem prime_5156902474397 : Nat.Prime 5156902474397 :=
  prime_of_lucasCertificate 2
    [(2, 2), (107, 1), (12048837557, 1)]
    (by decide +kernel)
    ⟨Nat.prime_two, by norm_num, prime_12048837557⟩

theorem prime_1670836401704629 : Nat.Prime 1670836401704629 :=
  prime_of_lucasCertificate 2
    [(2, 2), (3, 4), (5156902474397, 1)]
    (by decide +kernel)
    ⟨Nat.prime_two, Nat.prime_three, prime_5156902474397⟩

theorem prime_1593227 : Nat.Prime 1593227 :=
  prime_of_lucasCertificate 2
    [(2, 1), (19, 1), (41927, 1)]
    (by decide +kernel)
    ⟨Nat.prime_two, by norm_num, by norm_num⟩

theorem prime_639533339 : Nat.Prime 639533339 :=
  prime_of_lucasCertificate 2
    [(2, 1), (229, 1), (853, 1), (1637, 1)]
    (by decide +kernel)
    ⟨Nat.prime_two, by norm_num, by norm_num, by norm_num⟩

theorem prime_65865678001877903 : Nat.Prime 65865678001877903 :=
  prime_of_lucasCertificate 5
    [(2, 1), (83, 1), (379, 1), (1637, 1), (639533339, 1)]
    (by decide +kernel)
    ⟨Nat.prime_two, by norm_num, by norm_num, by norm_num, prime_639533339⟩

theorem prime_13818364434197438864469338081 : Nat.Prime 13818364434197438864469338081 :=
  prime_of_lucasCertificate 3
    [(2, 5), (5, 1), (823, 1), (1593227, 1), (65865678001877903, 1)]
    (by decide +kernel)
    ⟨Nat.prime_two, Nat.prime_five, by norm_num, prime_1593227, prime_65865678001877903⟩

theorem prime_groupOrder : Nat.Prime groupOrder :=
  prime_of_lucasCertificate 5
    [(2, 28), (3, 2), (13, 1), (29, 1), (983, 1), (11003, 1), (237073, 1), (405928799, 1),
      (1670836401704629, 1), (13818364434197438864469338081, 1)]
    (by decide +kernel)
    ⟨Nat.prime_two, Nat.prime_three, by norm_num, by norm_num, by norm_num, by norm_num, by norm_num,
      prime_405928799, prime_1670836401704629, prime_13818364434197438864469338081⟩


end Sys2Proof.Machine
end


section
/-! SUPPORT. Each level of the tower is a field (`40_fp_tower.md` R125, `10_state.md` R56): `-1` is no square modulo `p`, `ξ` is
neither a square nor a cube in Fp2, so the three defining polynomials are irreducible. The field structures are over the ring
structures the readings `toZp`, `toK2`, `toK6`, `toK12` keep. -/

namespace Sys2Proof.Machine

/- The kernel evaluations of this part run one at a time. -/
set_option Elab.async false

open Polynomial

/-- An element whose power `(q - 1)/n` is not one is no `n`-th power in the field of `q` elements. -/
theorem pow_ne_of_pow_ne_one {K : Type} [Field K] [Finite K] {n m : Nat} {x : K} (hcard : n * m + 1 = Nat.card K)
    (hn : n ≠ 0) (hx : x ≠ 0) (hpow : x ^ m ≠ 1) (b : K) : b ^ n ≠ x := by
  rintro rfl
  have hb : b ≠ 0 := fun h => hx (by rw [h, zero_pow hn])
  apply hpow
  cases nonempty_fintype K
  rw [← pow_mul, show n * m = Fintype.card K - 1 by rw [← Nat.card_eq_fintype_card]; omega]
  exact FiniteField.pow_card_sub_one_eq_one b hb

/-! ## Fp -/

theorem fact_prime_p : Fact (Nat.Prime Config.p) := ⟨prime_p⟩

theorem toZp_eq_zero {a : Fp} : toZp a = 0 ↔ a = fpZero := by rw [← toZp_zero, toZp_injective.eq_iff]

/-- An Fp element whose power `(p - 1)/n` is not one is no `n`-th power. -/
theorem toZp_pow_ne {n m : Nat} {a : Fp} (hcard : n * m + 1 = Config.p) (hn : n ≠ 0) (ha : a ≠ fpZero)
    (hpow : fpPow a m ≠ fpOne) (b : Zp) : b ^ n ≠ toZp a := by
  have := fact_prime_p
  refine pow_ne_of_pow_ne_one (by rw [hcard, Nat.card_zmod]) hn (mt toZp_eq_zero.1 ha) ?_ b
  rwa [← toZp_pow, ← toZp_one, toZp_injective.ne_iff]

/-- Fermat: the inverse of R120. -/
theorem toZp_inv {a : Fp} (ha : a ≠ fpZero) : toZp a * toZp (fpInv a) = 1 := by
  have := fact_prime_p
  rw [fpInv, toZp_pow, ← pow_succ', show Config.p - 2 + 1 = Config.p - 1 by decide]
  exact ZMod.pow_card_sub_one_eq_one (mt toZp_eq_zero.1 ha)

/-! ## Fp2 -/

/-- `-1` is no square modulo `p`, as `p` is 3 modulo 4. -/
theorem fact_neg_one_not_square : Fact (∀ r : Zp, r ^ 2 ≠ -1 + 0 * r) := by
  have := fact_prime_p
  refine ⟨fun r hr => ?_⟩
  rw [zero_mul, add_zero] at hr
  exact ZMod.mod_four_ne_three_of_sq_eq_neg_one hr (by decide)

/-- The field Fp2 is read in. -/
noncomputable abbrev fieldK2 : Field K2 :=
  have := fact_prime_p
  have := fact_neg_one_not_square
  inferInstance

theorem card_K2 : Nat.card K2 = Config.p ^ 2 := by
  rw [Nat.card_congr (QuadraticAlgebra.equivProd (-1 : Zp) 0), Nat.card_prod, Nat.card_zmod, pow_two]

theorem finite_K2 : Finite K2 := Nat.finite_of_card_ne_zero (by rw [card_K2]; decide)

theorem toK2_eq_zero {a : Fp2} : toK2 a = 0 ↔ a = fp2Zero := by rw [← toK2_zero, toK2_injective.eq_iff]

/-- An Fp2 element whose power `(p² - 1)/n` is not one is no `n`-th power. -/
theorem toK2_pow_ne {n m : Nat} {a : Fp2} (hcard : n * m + 1 = Config.p ^ 2) (hn : n ≠ 0) (ha : a ≠ fp2Zero)
    (hpow : fp2Pow a m ≠ fp2One) (b : K2) : b ^ n ≠ toK2 a := by
  let := fieldK2
  have := finite_K2
  refine pow_ne_of_pow_ne_one (by rw [hcard, card_K2]) hn (mt toK2_eq_zero.1 ha) ?_ b
  rwa [← toK2_pow, ← toK2_one, toK2_injective.ne_iff]

theorem toK2_inv {a : Fp2} (ha : a ≠ fp2Zero) : toK2 a * toK2 (fp2Inv a) = 1 := by
  have := fact_prime_p
  have := fact_neg_one_not_square
  have hnorm : toZp (fp2Norm a) = QuadraticAlgebra.norm (toK2 a) := by
    simp [fp2Norm, QuadraticAlgebra.norm_def, toK2]
  have hne : fp2Norm a ≠ fpZero := by
    rw [← toZp_injective.ne_iff, hnorm, toZp_zero]
    exact mt (QuadraticAlgebra.norm_eq_zero_iff_eq_zero.1) (mt toK2_eq_zero.1 ha)
  have hinv := toZp_inv hne
  simp only [fp2Norm, toZp_add, toZp_mul] at hinv
  ext
  · simp only [toK2, fp2Inv, fp2Norm, QuadraticAlgebra.re_mul, QuadraticAlgebra.re_one, toZp_mul, toZp_neg]
    linear_combination hinv
  · simp only [toK2, fp2Inv, fp2Norm, QuadraticAlgebra.im_mul, QuadraticAlgebra.im_one, toZp_mul, toZp_neg]
    ring

theorem xi_pow_half : fp2Pow xi ((Config.p ^ 2 - 1) / 2) = fp2Neg fp2One := by decide +kernel

theorem xi_pow_third : fp2Pow xi ((Config.p ^ 2 - 1) / 3) ≠ fp2One := by decide +kernel

/-- `ξ` is no square in Fp2. -/
theorem xiK_not_square (b : K2) : b ^ 2 ≠ xiK := by
  rw [← toK2_xi]
  exact toK2_pow_ne (m := (Config.p ^ 2 - 1) / 2) (by decide) (by decide) (by decide)
    (by rw [xi_pow_half]; decide) b

/-- `ξ` is no cube in Fp2. -/
theorem xiK_not_cube (b : K2) : b ^ 3 ≠ xiK := by
  rw [← toK2_xi]
  exact toK2_pow_ne (m := (Config.p ^ 2 - 1) / 3) (by decide) (by decide) (by decide) xi_pow_third b

/-! ## Fp6 -/

theorem vPoly_irreducible : Irreducible vPoly := by
  let := fieldK2
  exact X_pow_sub_C_irreducible_of_prime Nat.prime_three xiK_not_cube

/-- The field Fp6 is read in. -/
noncomputable abbrev fieldK6 : Field K6 :=
  letI := fieldK2
  have : Fact (Irreducible vPoly) := ⟨vPoly_irreducible⟩
  AdjoinRoot.instField

theorem toK6_eq_zero_iff {a : Fp6} : toK6 a = 0 ↔ a = fp6Zero := by rw [← toK6_zero, toK6_injective.eq_iff]

/-- The numerator of the inverse in Fp6 (R123). -/
def fp6Adjugate (a : Fp6) : Fp6 :=
  ⟨fp2Sub (fp2Mul a.c0 a.c0) (mulXi (fp2Mul a.c1 a.c2)), fp2Sub (mulXi (fp2Mul a.c2 a.c2)) (fp2Mul a.c0 a.c1),
    fp2Sub (fp2Mul a.c1 a.c1) (fp2Mul a.c0 a.c2)⟩

/-- The denominator of the inverse in Fp6 (R123). -/
def fp6Norm (a : Fp6) : Fp2 :=
  fp2Add (fp2Mul a.c0 (fp6Adjugate a).c0)
    (mulXi (fp2Add (fp2Mul a.c2 (fp6Adjugate a).c1) (fp2Mul a.c1 (fp6Adjugate a).c2)))

theorem toK6_mul_adjugate (a : Fp6) : toK6 a * toK6 (fp6Adjugate a) = ofK2 (toK2 (fp6Norm a)) := by
  simp only [fp6Norm, fp6Adjugate, toK6, toK2_add, toK2_sub, toK2_mul, toK2_mulXi, map_add, map_sub, map_mul,
    ← vK_pow_three]
  ring

theorem toK6_inv_eq (a : Fp6) : toK6 (fp6Inv a) = toK6 (fp6Adjugate a) * ofK2 (toK2 (fp2Inv (fp6Norm a))) := by
  simp only [fp6Inv, toK2_mul, map_mul, toK6, fp6Norm, fp6Adjugate]
  ring

/-- A zero numerator would make `c1/c2` a cube root of `ξ`. -/
theorem fp6Adjugate_ne_zero {a : Fp6} (ha : a ≠ fp6Zero) : fp6Adjugate a ≠ fp6Zero := by
  let := fieldK2
  intro h
  obtain ⟨h0, h1, h2⟩ := toK6_eq_zero (toK6_eq_zero_iff.2 h)
  simp only [fp6Adjugate, toK2_sub, toK2_mul, toK2_mulXi] at h0 h1 h2
  by_cases hc2 : toK2 a.c2 = 0
  · have hc0 : toK2 a.c0 = 0 := by simpa [hc2] using h0
    have hc1 : toK2 a.c1 = 0 := by simpa [hc2] using h2
    exact ha (toK6_eq_zero_iff.1 (by simp [toK6, hc0, hc1, hc2]))
  · apply xiK_not_cube (toK2 a.c1 / toK2 a.c2)
    rw [div_pow, div_eq_iff (pow_ne_zero 3 hc2)]
    linear_combination toK2 a.c1 * h2 - toK2 a.c2 * h1

theorem toK6_inv {a : Fp6} (ha : a ≠ fp6Zero) : toK6 a * toK6 (fp6Inv a) = 1 := by
  let := fieldK6
  have hne : fp6Norm a ≠ fp2Zero := by
    intro h
    have hzero := toK6_mul_adjugate a
    rw [h, toK2_zero, map_zero] at hzero
    exact mul_ne_zero (mt toK6_eq_zero_iff.1 ha) (mt toK6_eq_zero_iff.1 (fp6Adjugate_ne_zero ha)) hzero
  rw [toK6_inv_eq, ← mul_assoc, toK6_mul_adjugate, ← map_mul, toK2_inv hne, map_one]

theorem norm_vK : letI := fieldK2; Algebra.norm K2 vK = xiK := by
  let := fieldK2
  have hpb := Algebra.PowerBasis.norm_gen_eq_coeff_zero_minpoly (AdjoinRoot.powerBasis vPoly_monic.ne_zero)
  rw [AdjoinRoot.minpoly_powerBasis_gen_of_monic vPoly_monic, AdjoinRoot.powerBasis_gen, AdjoinRoot.powerBasis_dim,
    vPoly_natDegree] at hpb
  rw [vK, hpb]
  simp [pow_succ]

/-- `v` is no square in Fp6, as its norm `ξ` is none in Fp2. -/
theorem vK_not_square (b : K6) : b ^ 2 ≠ vK := by
  let := fieldK2
  intro h
  apply xiK_not_square (Algebra.norm K2 b)
  rw [← map_pow, h, norm_vK]

theorem card_K6 : Nat.card K6 = Config.p ^ 6 := by
  let := fieldK2
  let basis := AdjoinRoot.powerBasis vPoly_monic.ne_zero
  have : Module.Finite K2 K6 := basis.finite
  rw [Module.natCard_eq_pow_finrank (K := K2), card_K2, basis.finrank, AdjoinRoot.powerBasis_dim, vPoly_natDegree,
    ← pow_mul]

/-! ## Fp12 -/

theorem fact_vK_not_square : Fact (∀ r : K6, r ^ 2 ≠ vK + 0 * r) := by
  refine ⟨fun r hr => vK_not_square r ?_⟩
  rwa [zero_mul, add_zero] at hr

/-- The field Fp12 is read in. -/
noncomputable abbrev fieldK12 : Field K12 :=
  letI := fieldK6
  have := fact_vK_not_square
  inferInstance

theorem card_K12 : Nat.card K12 = Config.p ^ 12 := by
  rw [Nat.card_congr (QuadraticAlgebra.equivProd vK 0), Nat.card_prod, card_K6, ← pow_add]

theorem finite_K12 : Finite K12 := Nat.finite_of_card_ne_zero (by rw [card_K12]; decide)

theorem toK12_eq_zero {a : Fp12} : toK12 a = 0 ↔ a = fp12Zero := by rw [← toK12_zero, toK12_injective.eq_iff]

theorem toK12_inv {a : Fp12} (ha : a ≠ fp12Zero) : toK12 a * toK12 (fp12Inv a) = 1 := by
  let := fieldK6
  have := fact_vK_not_square
  have hnorm (a : Fp12) : toK6 (fp6Sub (fp6Mul a.y a.y) (mulV (fp6Mul a.x a.x))) = QuadraticAlgebra.norm (toK12 a) := by
    simp [QuadraticAlgebra.norm_def, toK12, mul_assoc]
  have hne : fp6Sub (fp6Mul a.y a.y) (mulV (fp6Mul a.x a.x)) ≠ fp6Zero := by
    rw [← toK6_injective.ne_iff, hnorm, toK6_zero]
    exact mt (QuadraticAlgebra.norm_eq_zero_iff_eq_zero.1) (mt toK12_eq_zero.1 ha)
  have hinv := toK6_inv hne
  simp only [toK6_sub, toK6_mul, toK6_mulV] at hinv
  ext
  · simp only [toK12, fp12Inv, QuadraticAlgebra.re_mul, QuadraticAlgebra.re_one, toK6_mul, toK6_neg]
    linear_combination hinv
  · simp only [toK12, fp12Inv, QuadraticAlgebra.im_mul, QuadraticAlgebra.im_one, toK6_mul, toK6_neg]
    ring

/-- Fermat in Fp12. -/
theorem toK12_pow_card_sub_one {a : Fp12} (ha : a ≠ fp12Zero) : toK12 a ^ (Config.p ^ 12 - 1) = 1 := by
  let := fieldK12
  have := finite_K12
  cases nonempty_fintype K12
  rw [← card_K12, Nat.card_eq_fintype_card]
  exact FiniteField.pow_card_sub_one_eq_one _ (mt toK12_eq_zero.1 ha)

end Sys2Proof.Machine
end

section
/-! The parameters of the ROM (`10_state.md` R51, R54 to R56). -/

namespace Sys2Proof.Machine

/- The kernel evaluations of this part run one at a time. -/
set_option Elab.async false

theorem fpMul_self_ne_three (y : Fp) : fpMul y y ≠ fpOfNat 3 := by
  rw [← toZp_injective.ne_iff, toZp_mul, ← pow_two]
  exact toZp_pow_ne (m := (Config.p - 1) / 2) (by decide) (by decide) (by decide) (by decide +kernel) _

theorem fp2Mul_self_ne_twistB (y : Fp2) : fp2Mul y y ≠ twistB := by
  rw [← toK2_injective.ne_iff, toK2_mul, ← pow_two]
  exact toK2_pow_ne (m := (Config.p ^ 2 - 1) / 2) (by decide) (by decide) (by decide) (by decide +kernel) _

theorem xi_no_square_no_cube (a : Fp2) : fp2Mul a a ≠ xi ∧ fp2Mul (fp2Mul a a) a ≠ xi := by
  simp only [← toK2_injective.ne_iff, toK2_mul, toK2_xi, ← pow_two, ← pow_succ]
  exact ⟨xiK_not_square _, xiK_not_cube _⟩

/-- `γ[j][k] = ξ^(k(p^j-1)/6)` (R55). -/
theorem gamma_eq_xi_pow (j k : Nat) (hj : 1 ≤ j) (hj' : j ≤ 3) (hk : k ≤ 5) :
    gamma j k = fp2Pow (fp2OfNat 9 1) (k * ((Config.p ^ j - 1) / 6)) := by
  have h1 : ∀ k < 6, gamma 1 k = fp2Pow (fp2OfNat 9 1) (k * ((Config.p ^ 1 - 1) / 6)) := by decide +kernel
  have h2 : ∀ k < 6, gamma 2 k = fp2Pow (fp2OfNat 9 1) (k * ((Config.p ^ 2 - 1) / 6)) := by decide +kernel
  have h3 : ∀ k < 6, gamma 3 k = fp2Pow (fp2OfNat 9 1) (k * ((Config.p ^ 3 - 1) / 6)) := by decide +kernel
  obtain rfl | rfl | rfl : j = 1 ∨ j = 2 ∨ j = 3 := by omega
  · exact h1 k (by omega)
  · exact h2 k (by omega)
  · exact h3 k (by omega)

/-- The embedding degree is 12 (R56, item 8). -/
theorem groupOrder_dvd_iff : groupOrder ∣ Config.p ^ 12 - 1 ∧ ∀ k < 12, 0 < k → ¬ groupOrder ∣ Config.p ^ k - 1 := by
  decide +kernel

theorem g1Gen_onCurve : onCurve1 g1Gen = true := by decide +kernel

theorem g2Gen_onCurve : onCurve2 g2Gen = true := by decide +kernel

theorem g1Gen_inSubgroup : inSubgroup1 g1Gen = true := by decide +kernel

theorem g2Gen_inSubgroup : inSubgroup2 g2Gen = true := by decide +kernel

/-- Settles O35: the non-residues by Euler's criterion, the primes by certificates, the rest by evaluation. -/
theorem parameterFacts : Obligations.ParameterFacts :=
  ⟨by decide +kernel, by decide +kernel, by decide +kernel, by decide +kernel, by decide +kernel, prime_p,
    prime_groupOrder, by decide, by decide, by decide, by decide, by decide +kernel, groupOrder_dvd_iff.1,
    fun k hk hk' => groupOrder_dvd_iff.2 k hk' hk, by decide +kernel, xi_pow_half, xi_pow_third, xi_no_square_no_cube,
    fpMul_self_ne_three, fp2Mul_self_ne_twistB, by decide, gamma_eq_xi_pow, g1Gen_onCurve, g2Gen_onCurve,
    g1Gen_inSubgroup, g2Gen_inSubgroup⟩

end Sys2Proof.Machine
end

section
/-! SUPPORT. The group law keeps the curve (`41_g1.md` R200 to R203, `42_g2.md` R230, R231), proved once over a record of field
operations that reads as a domain; the two coordinate fields are such records. -/

namespace Sys2Proof.Machine

/-- The operations `O` read through `φ` as those of the ring `K`, with inverses where they exist. -/
structure FieldOps.ReadsAs {F K : Type} [CommRing K] (O : FieldOps F) (φ : F → K) : Prop where
  injective : Function.Injective φ
  zero : φ O.zero = 0
  two : φ O.two = 2
  three : φ O.three = 3
  two_ne : (2 : K) ≠ 0
  add : ∀ a b, φ (O.add a b) = φ a + φ b
  sub : ∀ a b, φ (O.sub a b) = φ a - φ b
  neg : ∀ a, φ (O.neg a) = -φ a
  mul : ∀ a b, φ (O.mul a b) = φ a * φ b
  inv : ∀ a, a ≠ O.zero → φ a * φ (O.inv a) = 1

theorem two_ne_zero_Zp : (2 : Zp) ≠ 0 := by
  have h : toZp (fpOfNat 2) ≠ toZp fpZero := toZp_injective.ne (by decide)
  simpa using h

theorem fpOps_readsAs : fpOps.ReadsAs toZp where
  injective := toZp_injective
  zero := by simp [fpOps]
  two := by simp [fpOps]
  three := by simp [fpOps]
  two_ne := two_ne_zero_Zp
  add := by simp [fpOps]
  sub := by simp [fpOps]
  neg := by simp [fpOps]
  mul := by simp [fpOps]
  inv _ ha := by
    simp only [fpOps] at ha ⊢
    exact toZp_inv ha

theorem fp2Ops_readsAs : fp2Ops.ReadsAs toK2 where
  injective := toK2_injective
  zero := by simp [fp2Ops]
  two := by simp [fp2Ops, QuadraticAlgebra.ext_iff, QuadraticAlgebra.re_ofNat, QuadraticAlgebra.im_ofNat]
  three := by simp [fp2Ops, QuadraticAlgebra.ext_iff, QuadraticAlgebra.re_ofNat, QuadraticAlgebra.im_ofNat]
  two_ne h := two_ne_zero_Zp (by simpa only [QuadraticAlgebra.re_ofNat, QuadraticAlgebra.re_zero] using congrArg QuadraticAlgebra.re h)
  add := by simp [fp2Ops]
  sub := by simp [fp2Ops]
  neg := by simp [fp2Ops]
  mul := by simp [fp2Ops]
  inv _ ha := by
    simp only [fp2Ops] at ha ⊢
    exact toK2_inv ha

/-- The third point of a line through two points of the curve with different abscissas is on the curve. -/
theorem chord_equation {K : Type} [CommRing K] [IsDomain K] {x1 y1 x2 y2 l b : K} (h1 : y1 * y1 = x1 * x1 * x1 + b)
    (h2 : y2 * y2 = x2 * x2 * x2 + b) (hx : x2 - x1 ≠ 0) (hl : l * (x2 - x1) = y2 - y1) :
    (l * (x1 - (l * l - x1 - x2)) - y1) * (l * (x1 - (l * l - x1 - x2)) - y1) =
      (l * l - x1 - x2) * (l * l - x1 - x2) * (l * l - x1 - x2) + b := by
  apply mul_left_cancel₀ hx
  obtain rfl : y2 = y1 + l * (x2 - x1) := by linear_combination -hl
  linear_combination (l * l - 2 * x1 - x2) * h2 - (l * l - x1 - 2 * x2) * h1

/-- The tangent at a point of the curve meets it again on the curve. -/
theorem tangent_equation {K : Type} [CommRing K] {x y l b : K} (h : y * y = x * x * x + b)
    (hl : l * (2 * y) = 3 * x * x) :
    (l * (x - (l * l - 2 * x)) - y) * (l * (x - (l * l - 2 * x)) - y) =
      (l * l - 2 * x) * (l * l - 2 * x) * (l * l - 2 * x) + b := by
  linear_combination h + (l * l - 3 * x) * hl

section
variable {F K : Type} [CommRing K] {O : FieldOps F} {φ : F → K} {b : F}

theorem FieldOps.ReadsAs.ne_zero (hO : O.ReadsAs φ) {a : F} : a ≠ O.zero ↔ φ a ≠ 0 := by
  rw [← hO.zero, hO.injective.ne_iff]

variable [DecidableEq F]

/-- The curve equation, read in `K`. -/
theorem FieldOps.ReadsAs.pointOnCurve_affine (hO : O.ReadsAs φ) (x y : F) :
    pointOnCurve O b (.affine x y) = true ↔ φ y * φ y = φ x * φ x * φ x + φ b := by
  simp only [pointOnCurve, decide_eq_true_eq, ← hO.injective.eq_iff, hO.mul, hO.add]

theorem FieldOps.ReadsAs.pointNeg_onCurve (hO : O.ReadsAs φ) {A : Point F} (hA : pointOnCurve O b A = true) :
    pointOnCurve O b (pointNeg O A) = true := by
  cases A with
  | infinity => rfl
  | affine x y =>
    rw [pointNeg, hO.pointOnCurve_affine, hO.neg, neg_mul_neg]
    exact (hO.pointOnCurve_affine x y).1 hA

variable [IsDomain K]

theorem FieldOps.ReadsAs.pointDbl_onCurve (hO : O.ReadsAs φ) {A : Point F} (hA : pointOnCurve O b A = true) :
    pointOnCurve O b (pointDbl O A) = true := by
  cases A with
  | infinity => rfl
  | affine x y =>
    by_cases hy : y = O.zero
    · simp [pointDbl, hy, pointOnCurve]
    have h2y : O.mul O.two y ≠ O.zero := by
      rw [hO.ne_zero, hO.mul, hO.two]
      exact mul_ne_zero hO.two_ne (hO.ne_zero.1 hy)
    have hinv := hO.inv _ h2y
    rw [hO.mul, hO.two] at hinv
    rw [hO.pointOnCurve_affine] at hA
    simp only [pointDbl, hy, if_false]
    rw [hO.pointOnCurve_affine]
    simp only [hO.sub, hO.mul, hO.two]
    refine tangent_equation hA ?_
    simp only [tangentSlope, hO.mul, hO.three]
    linear_combination 3 * φ x * φ x * hinv

theorem FieldOps.ReadsAs.pointAdd_onCurve (hO : O.ReadsAs φ) {A B : Point F} (hA : pointOnCurve O b A = true)
    (hB : pointOnCurve O b B = true) : pointOnCurve O b (pointAdd O A B) = true := by
  match A, B with
  | .infinity, _ => exact hB
  | .affine _ _, .infinity => exact hA
  | .affine x1 y1, .affine x2 y2 =>
    rw [pointAdd]
    split_ifs with hxy hx
    · exact hO.pointDbl_onCurve hA
    · rfl
    · rw [hO.pointOnCurve_affine] at hA hB
      have hne : O.sub x2 x1 ≠ O.zero := by
        rw [hO.ne_zero, hO.sub, sub_ne_zero, hO.injective.ne_iff]
        exact fun h => hx h.symm
      have hinv := hO.inv _ hne
      rw [hO.sub] at hinv
      rw [chordPoint, hO.pointOnCurve_affine]
      simp only [hO.sub, hO.mul]
      refine chord_equation hA hB (by rw [← hO.sub]; exact hO.ne_zero.1 hne) ?_
      simp only [chordSlope, hO.mul, hO.sub]
      linear_combination (φ y2 - φ y1) * hinv

theorem FieldOps.ReadsAs.ladderFrom_onCurve (hO : O.ReadsAs φ) {A : Point F} (hA : pointOnCurve O b A = true) (k n : Nat)
    (R : Point F) (hR : pointOnCurve O b R = true) : pointOnCurve O b (ladderFrom O A k n R) = true := by
  induction n generalizing R with
  | zero => exact hR
  | succ n ih =>
    rw [ladderFrom]
    apply ih
    split
    · exact hO.pointAdd_onCurve (hO.pointDbl_onCurve hR) hA
    · exact hO.pointDbl_onCurve hR

theorem FieldOps.ReadsAs.scalarMul_onCurve (hO : O.ReadsAs φ) {A : Point F} (hA : pointOnCurve O b A = true) (k : Nat) :
    pointOnCurve O b (scalarMul O A k) = true := hO.ladderFrom_onCurve hA _ _ _ rfl

end

/-! ## The two curves -/

theorem isDomain_Zp : IsDomain Zp :=
  have := fact_prime_p
  inferInstance

theorem isDomain_K2 : IsDomain K2 :=
  letI := fieldK2
  inferInstance

theorem add1_onCurve {A B : G1Point} (hA : onCurve1 A = true) (hB : onCurve1 B = true) : onCurve1 (add1 A B) = true :=
  have := isDomain_Zp
  fpOps_readsAs.pointAdd_onCurve hA hB

theorem dbl1_onCurve {A : G1Point} (hA : onCurve1 A = true) : onCurve1 (dbl1 A) = true :=
  have := isDomain_Zp
  fpOps_readsAs.pointDbl_onCurve hA

theorem neg1_onCurve {A : G1Point} (hA : onCurve1 A = true) : onCurve1 (neg1 A) = true :=
  have := isDomain_Zp
  fpOps_readsAs.pointNeg_onCurve hA

theorem smul1_onCurve {A : G1Point} (hA : onCurve1 A = true) (k : Nat) : onCurve1 (smul1 A k) = true :=
  have := isDomain_Zp
  fpOps_readsAs.scalarMul_onCurve hA k

theorem add2_onCurve {A B : G2Point} (hA : onCurve2 A = true) (hB : onCurve2 B = true) : onCurve2 (add2 A B) = true :=
  have := isDomain_K2
  fp2Ops_readsAs.pointAdd_onCurve hA hB

theorem dbl2_onCurve {A : G2Point} (hA : onCurve2 A = true) : onCurve2 (dbl2 A) = true :=
  have := isDomain_K2
  fp2Ops_readsAs.pointDbl_onCurve hA

theorem neg2_onCurve {A : G2Point} (hA : onCurve2 A = true) : onCurve2 (neg2 A) = true :=
  have := isDomain_K2
  fp2Ops_readsAs.pointNeg_onCurve hA

theorem smul2_onCurve {A : G2Point} (hA : onCurve2 A = true) (k : Nat) : onCurve2 (smul2 A k) = true :=
  have := isDomain_K2
  fp2Ops_readsAs.scalarMul_onCurve hA k

/-! ## Loads (`46_point_encoding.md` R314 to R318) -/

theorem checkedPoint_onCurve {F : Type} {onCurve : Point F → Bool} {x y : F} {A : Point F}
    (h : checkedPoint onCurve x y = .ok A) : onCurve A = true := by
  unfold checkedPoint at h
  split at h
  · next hok =>
    cases h
    exact hok
  · cases h

theorem decG1_onCurve {B : List Byte} {A : G1Point} (h : decG1 B = .ok A) : onCurve1 A = true := by
  unfold decG1 at h
  split at h
  · cases h
    rfl
  · obtain ⟨x, _, h1⟩ := bind_ok.1 h
    obtain ⟨y, _, h2⟩ := bind_ok.1 h1
    exact checkedPoint_onCurve h2

theorem decG2_onCurve {B : List Byte} {A : G2Point} (h : decG2 B = .ok A) : onCurve2 A = true := by
  unfold decG2 at h
  split at h
  · cases h
    rfl
  · obtain ⟨x, _, h1⟩ := bind_ok.1 h
    obtain ⟨y, _, h2⟩ := bind_ok.1 h1
    exact checkedPoint_onCurve h2

/-- A compressed form that decodes gives a root or its negative. -/
theorem withSign_ok {F : Type} [DecidableEq F] {zero : F} {neg : F → F} {sgn : F → Nat} {S : Nat} {x : F}
    {root : Option F} {A : Point F} (h : withSign zero neg sgn S x root = .ok A) :
    ∃ y, root = some y ∧ (A = .affine x y ∨ A = .affine x (neg y)) := by
  cases root with
  | none => cases h
  | some y =>
    simp only [withSign] at h
    split_ifs at h
    · cases h
      exact ⟨y, rfl, .inl rfl⟩
    · cases h
      exact ⟨y, rfl, .inr rfl⟩
    · cases h
      exact ⟨y, rfl, .inl rfl⟩

theorem fpSqrt_some {w y : Fp} (h : fpSqrt w = some y) : fpMul y y = w := by
  unfold fpSqrt at h
  simp only at h
  split at h
  · next hsq => rwa [Option.some.inj h] at hsq
  · cases h

theorem fp2Sqrt_some {w y : Fp2} (h : fp2Sqrt w = some y) : fp2Mul y y = w := by
  unfold fp2Sqrt at h
  simp only at h
  split_ifs at h with hw _ _ hsq hsq
  · rw [← Option.some.inj h, ← toK2_injective.eq_iff]
    simp [hw]
  · rwa [Option.some.inj h] at hsq
  · rwa [Option.some.inj h] at hsq

theorem decG1C_onCurve {B : List Byte} {A : G1Point} (h : decG1C B = .ok A) : onCurve1 A = true := by
  unfold decG1C at h
  split at h
  · cases h
    rfl
  · obtain ⟨x, _, h1⟩ := bind_ok.1 h
    obtain ⟨y, hroot, hA⟩ := withSign_ok h1
    have hy : onCurve1 (.affine x y) = true := decide_eq_true (fpSqrt_some hroot)
    obtain rfl | rfl := hA
    · exact hy
    · exact neg1_onCurve hy

theorem decG2C_onCurve {B : List Byte} {A : G2Point} (h : decG2C B = .ok A) : onCurve2 A = true := by
  unfold decG2C at h
  split at h
  · cases h
    rfl
  · obtain ⟨x, _, h1⟩ := bind_ok.1 h
    obtain ⟨y, hroot, hA⟩ := withSign_ok h1
    have hy : onCurve2 (.affine x y) = true := decide_eq_true (fp2Sqrt_some hroot)
    obtain rfl | rfl := hA
    · exact hy
    · exact neg2_onCurve hy

end Sys2Proof.Machine
end

section
/-! SUPPORT. The values with tag `GT` and `MLO` (`10_state.md` R34): which operations keep `g^r = 1` and which give a non-zero
value (`44_pairing.md` R275 to R282). -/

namespace Sys2Proof.Machine

/- The kernel evaluations of this part run one at a time. -/
set_option Elab.async false

/-! ## `GT` -/

/-- The order condition, read in `K12`; it makes the value non-zero. -/
theorem gt_tagLegal {g : Fp12} : (EVal.gt g).tagLegal = true ↔ toK12 g ^ groupOrder = 1 := by
  simp only [EVal.tagLegal, Bool.and_eq_true, decide_eq_true_eq]
  rw [← toK12_pow, ← toK12_one, toK12_injective.eq_iff]
  refine ⟨fun h => h.2, fun h => ⟨?_, h⟩⟩
  rintro rfl
  have hK := congrArg toK12 h
  rw [toK12_pow, toK12_zero, toK12_one, zero_pow (by decide)] at hK
  let := fieldK12
  exact zero_ne_one hK

theorem gt_tagLegal_one : (EVal.gt fp12One).tagLegal = true := by
  rw [gt_tagLegal, toK12_one, one_pow]

theorem gt_tagLegal_mul {a b : Fp12} (ha : (EVal.gt a).tagLegal = true) (hb : (EVal.gt b).tagLegal = true) :
    (EVal.gt (fp12Mul a b)).tagLegal = true := by
  rw [gt_tagLegal] at ha hb ⊢
  rw [toK12_mul, mul_pow, ha, hb, one_mul]

theorem gt_tagLegal_inv {a : Fp12} (ha : (EVal.gt a).tagLegal = true) : (EVal.gt (fp12Inv a)).tagLegal = true := by
  have hne : a ≠ fp12Zero := by
    simp only [EVal.tagLegal, Bool.and_eq_true, decide_eq_true_eq] at ha
    exact ha.1
  rw [gt_tagLegal] at ha ⊢
  calc toK12 (fp12Inv a) ^ groupOrder
      = toK12 a ^ groupOrder * toK12 (fp12Inv a) ^ groupOrder := by rw [ha, one_mul]
    _ = 1 := by rw [← mul_pow, toK12_inv hne, one_pow]

theorem gt_tagLegal_pow {a : Fp12} (ha : (EVal.gt a).tagLegal = true) (n : Nat) :
    (EVal.gt (gtExp a n)).tagLegal = true := by
  rw [gt_tagLegal] at ha ⊢
  rw [gtExp, toK12_pow, pow_right_comm, ha, one_pow]

/-- The final exponentiation lands in the subgroup of order `r` (R280). -/
theorem gt_tagLegal_finalExp {f : Fp12} (hf : f ≠ fp12Zero) : (EVal.gt (finalExp f)).tagLegal = true := by
  have hexp : finalExponent * groupOrder = Config.p ^ 12 - 1 := by decide +kernel
  rw [gt_tagLegal, finalExp, toK12_pow, ← pow_mul, hexp, toK12_pow_card_sub_one hf]

/-! ## `MLO` -/

theorem mlo_tagLegal {f : Fp12} : (EVal.mlo f).tagLegal = true ↔ f ≠ fp12Zero := by simp [EVal.tagLegal]

theorem fp12One_ne_zero : fp12One ≠ fp12Zero := by decide

theorem fp12Mul_ne_zero {a b : Fp12} (ha : a ≠ fp12Zero) (hb : b ≠ fp12Zero) : fp12Mul a b ≠ fp12Zero := by
  let := fieldK12
  rw [← toK12_eq_zero.ne, toK12_mul]
  exact mul_ne_zero (toK12_eq_zero.ne.2 ha) (toK12_eq_zero.ne.2 hb)

/-- G1 has no point of order two: `-3` is no cube modulo `p`. -/
theorem y_ne_zero_of_onCurve1 {x y : Fp} (h : onCurve1 (.affine x y) = true) : y ≠ fpZero := by
  rintro rfl
  refine toZp_pow_ne (n := 3) (m := (Config.p - 1) / 3) (a := fpNeg (fpOfNat 3)) (by decide) (by decide) (by decide)
    (by decide +kernel) (toZp x) ?_
  have heq := (fpOps_readsAs.pointOnCurve_affine x fpZero).1 h
  rw [toZp_zero, curveB] at heq
  rw [toZp_neg]
  linear_combination -heq

/-- The first coordinate of a line is `yP`. -/
theorem line_ne_zero (l m : Fp2) (xP : Fp) {yP : Fp} (hy : yP ≠ fpZero) : line l m xP yP ≠ fp12Zero :=
  fun h => hy (congrArg (fun a => a.y.c0.a0) h)

section
variable {xP yP : Fp} (hy : yP ≠ fpZero)
include hy

theorem mulLine_ne_zero {f : Fp12} (hf : f ≠ fp12Zero) (st : LineStep) : mulLine f st xP yP ≠ fp12Zero :=
  fp12Mul_ne_zero hf (line_ne_zero _ _ _ hy)

theorem millerLoop_ne_zero {Q T T' : G2Point} {n : Nat} {f f' : Fp12} (hf : f ≠ fp12Zero)
    (h : millerLoop xP yP Q n f T = .ok (f', T')) : f' ≠ fp12Zero := by
  induction n generalizing f T with
  | zero =>
    cases h
    exact hf
  | succ n ih =>
    rw [millerLoop] at h
    cases hd : dblStep T with
    | error x => simp [hd] at h
    | ok d =>
      have hf1 := mulLine_ne_zero (xP := xP) hy (fp12Mul_ne_zero hf hf) d
      simp only [hd] at h
      split at h
      · cases ha : addStep d.next Q with
        | error x => simp [ha] at h
        | ok a =>
          simp only [ha] at h
          exact ih (mulLine_ne_zero hy hf1 a) h
      · exact ih hf1 h

theorem millerClose_ne_zero {Q T : G2Point} {f f' : Fp12} (hf : f ≠ fp12Zero)
    (h : millerClose xP yP Q f T = .ok f') : f' ≠ fp12Zero := by
  unfold millerClose at h
  cases ha : addStep T (frobPoint Q) with
  | error x => simp [ha] at h
  | ok a =>
    cases hb : addStep a.next (neg2 (frobSqPoint Q)) with
    | error x => simp [ha, hb] at h
    | ok b =>
      simp only [ha, hb, Except.ok.injEq] at h
      rw [← h]
      exact mulLine_ne_zero hy (mulLine_ne_zero hy hf a) b

end

/-- The Miller value at a point of the curve is a product of lines, none of which is zero (R278). -/
theorem miller_ne_zero {P : G1Point} {Q : G2Point} {f : Fp12} (hP : onCurve1 P = true) (h : miller P Q = .ok f) :
    f ≠ fp12Zero := by
  match P, Q with
  | .infinity, _ =>
    rw [← Except.ok.inj h]
    exact fp12One_ne_zero
  | .affine _ _, .infinity =>
    rw [← Except.ok.inj h]
    exact fp12One_ne_zero
  | .affine xP yP, .affine xQ yQ =>
    have hy := y_ne_zero_of_onCurve1 hP
    rw [miller] at h
    cases hl : millerLoop xP yP (.affine xQ yQ) 64 fp12One (.affine xQ yQ) with
    | error x => simp [hl] at h
    | ok r =>
      simp only [hl] at h
      exact millerClose_ne_zero hy (millerLoop_ne_zero hy fp12One_ne_zero hl) h

theorem pairing_tagLegal {P : G1Point} {Q : G2Point} {g : Fp12} (hP : onCurve1 P = true) (h : pairing P Q = .ok g) :
    (EVal.gt g).tagLegal = true := by
  unfold pairing at h
  cases hm : miller P Q with
  | error x => simp [hm] at h
  | ok f =>
    simp only [hm, Except.ok.injEq] at h
    rw [← h]
    exact gt_tagLegal_finalExp (miller_ne_zero hP hm)

end Sys2Proof.Machine
end

section
/-! SUPPORT. Everything a command can do, once (`30_encoding.md` R109, `60_exceptions.md` R372): it ends by one of the constructors of
`CommandEnds`, whose premises are the command's row in `commandFacts` and what is known of the value written. The frames and the
invariants of a command are read off this one inversion lemma. -/

namespace Sys2Proof.Machine

/-- The ends of a command with row `f` that starts in `s`. The value a register receives is legal if the state's values are. -/
inductive CommandEnds (f : CommandFacts) (s : State) : State → Prop
  /-- The command raised. -/
  | raised (x : Exn) : CommandEnds f s (s.raised x)
  /-- Nothing is written. -/
  | done (htest : f.test = false) : CommandEnds f s s.completed
  /-- Everything is erased. -/
  | erased (herases : f.erases = true) (htest : f.test = false) : CommandEnds f s s.erase.completed
  | wroteE (rd : EIdx) (v : EVal) (hdest : f.dest = some (.e rd)) (htest : f.test = false)
      (hlegal : s.pointsOnCurve → s.tagsLegal → v.tagLegal = true) : CommandEnds f s (s.setE (eIdx rd) v).completed
  | wroteP (rd : PIdx) (d : Fin Config.NP) (A : G1Point) (hd : rd.toNat = d.val) (hdest : f.dest = some (.p rd))
      (htest : f.test = false) (hcurve : s.pointsOnCurve → onCurve1 A = true) : CommandEnds f s (s.setP d A).completed
  | wroteQ (rd : QIdx) (d : Fin Config.NQ) (A : G2Point) (hd : rd.toNat = d.val) (hdest : f.dest = some (.q rd))
      (htest : f.test = false) (hcurve : s.pointsOnCurve → onCurve2 A = true) : CommandEnds f s (s.setQ d A).completed
  | wroteK (rd : KIdx) (d : Fin Config.NK) (k : Option (BitVec 256)) (hd : rd.toNat = d.val)
      (hdest : f.dest = some (.k rd)) (htest : f.test = false) : CommandEnds f s (s.setK d k).completed
  /-- The truth flag is written. -/
  | tested (b : Bool) (htest : f.test = true) : CommandEnds f s (s.setT b).completed
  /-- The buffer is written. -/
  | stored (B : List Byte) (hstore : f.store = true) (htest : f.test = false) (hlen : B.length ≤ 384) :
      CommandEnds f s (storeBytes s B).completed
  /-- The lists are emptied. -/
  | cleared (hlists : f.lists = true) (htest : f.test = false) : CommandEnds f s (s.setLists [] []).completed
  | pushed1 (A : G1Point) (hlists : f.lists = true) (htest : f.test = false) (hlen : s.l1.length < 8)
      (hcurve : s.pointsOnCurve → onCurve1 A = true) : CommandEnds f s (s.setLists (s.l1 ++ [A]) s.l2).completed
  | pushed2 (A : G2Point) (hlists : f.lists = true) (htest : f.test = false) (hlen : s.l2.length < 8)
      (hcurve : s.pointsOnCurve → onCurve2 A = true) : CommandEnds f s (s.setLists s.l1 (s.l2 ++ [A])).completed
  /-- The pairing check ran. -/
  | checked (b : Bool) (hlists : f.lists = true) (htest : f.test = true) :
      CommandEnds f s ((s.setT b).setLists [] []).completed

/-! ## What the sources hold -/

theorem pregs_onCurve {s : State} (h : s.pointsOnCurve) {i : Fin Config.NP} {A : G1Point} (hA : s.pregs[i] = some A) :
    onCurve1 A = true := by
  have hmem : some A ∈ s.pregs.toList := by
    rw [← hA]
    exact Vector.mem_toList_iff.2 (Vector.getElem_mem i.isLt)
  exact List.all_eq_true.1 h.1 _ hmem

theorem qregs_onCurve {s : State} (h : s.pointsOnCurve) {i : Fin Config.NQ} {A : G2Point} (hA : s.qregs[i] = some A) :
    onCurve2 A = true := by
  obtain ⟨-, hq, -⟩ := h
  have hmem : some A ∈ s.qregs.toList := by
    rw [← hA]
    exact Vector.mem_toList_iff.2 (Vector.getElem_mem i.isLt)
  exact List.all_eq_true.1 hq _ hmem

theorem eregs_tagLegal {s : State} (h : s.tagsLegal) (i : Fin Config.NE) : s.eregs[i].tagLegal = true :=
  List.all_eq_true.1 h _ (Vector.mem_toList_iff.2 (Vector.getElem_mem i.isLt))

theorem asGt_eq_some {v : EVal} {a : Fp12} (h : v.asGt = some a) : v = .gt a := by
  cases v <;> simp_all [EVal.asGt]

theorem asMlo_eq_some {v : EVal} {a : Fp12} (h : v.asMlo = some a) : v = .mlo a := by
  cases v <;> simp_all [EVal.asMlo]

theorem getE_asGt_tagLegal {s : State} {i : EIdx} {w : Operand} {a : Fp12} (h : s.tagsLegal)
    (ha : getE EVal.asGt s i w = .ok a) : (EVal.gt a).tagLegal = true := by
  rw [← asGt_eq_some (getE_ok.1 ha).2]
  exact eregs_tagLegal h _

theorem getE_asMlo_ne_zero {s : State} {i : EIdx} {w : Operand} {a : Fp12} (h : s.tagsLegal)
    (ha : getE EVal.asMlo s i w = .ok a) : a ≠ fp12Zero := by
  rw [← mlo_tagLegal, ← asMlo_eq_some (getE_ok.1 ha).2]
  exact eregs_tagLegal h _

/-! ## The shapes over the `E` file -/

section
variable {f : CommandFacts} {s t : State}

theorem commandEnds_of_next {effect : Except Exn State} (h : s.finish effect = .next t)
    (hok : ∀ u, effect = .ok u → CommandEnds f s u.completed) : CommandEnds f s t := by
  obtain ⟨u, hu, rfl⟩ | ⟨x, -, rfl⟩ := State.finish_next.1 h
  · exact hok u hu
  · exact .raised x

section
variable {α : Type} {accepts : EVal → Option α} {tag : α → EVal} {rd ra rb : EIdx}

theorem eBinary_ends {g : α → α → α} (h : eBinary accepts tag g rd ra rb s = .next t) (hdest : f.dest = some (.e rd))
    (htest : f.test = false)
    (hlegal : ∀ a b, s.tagsLegal → getE accepts s ra .ra = .ok a → getE accepts s rb .rb = .ok b →
      (tag (g a b)).tagLegal = true) : CommandEnds f s t := by
  obtain ⟨a, b, ha, hb, rfl⟩ | ⟨x, rfl, -⟩ := eBinary_next h
  · exact .wroteE rd _ hdest htest fun _ hs => hlegal a b hs ha hb
  · exact .raised x

theorem eUnary_ends {g : α → α} (h : eUnary accepts tag g rd ra s = .next t) (hdest : f.dest = some (.e rd))
    (htest : f.test = false)
    (hlegal : ∀ a, s.tagsLegal → getE accepts s ra .ra = .ok a → (tag (g a)).tagLegal = true) :
    CommandEnds f s t := by
  obtain ⟨a, ha, rfl⟩ | ⟨x, rfl, -⟩ := eUnary_next h
  · exact .wroteE rd _ hdest htest fun _ hs => hlegal a hs ha
  · exact .raised x

theorem eNonZero_ends [DecidableEq α] {zero : α} {g : α → α} (h : eNonZero accepts tag zero g rd ra s = .next t)
    (hdest : f.dest = some (.e rd)) (htest : f.test = false) (hlegal : ∀ a, (tag a).tagLegal = true) :
    CommandEnds f s t := by
  obtain ⟨a, -, -, rfl⟩ | ⟨x, rfl, -⟩ := eNonZero_next h
  · exact .wroteE rd _ hdest htest fun _ _ => hlegal _
  · exact .raised x

theorem eTest2_ends {test : α → α → Bool} (h : eTest2 accepts test ra rb s = .next t) (htest : f.test = true) :
    CommandEnds f s t := by
  obtain ⟨a, b, -, -, rfl⟩ | ⟨x, rfl, -⟩ := eTest2_next h
  · exact .tested _ htest
  · exact .raised x

theorem eTest_ends {test : α → Bool} (h : eTest accepts test ra s = .next t) (htest : f.test = true) :
    CommandEnds f s t := by
  obtain ⟨a, -, rfl⟩ | ⟨x, rfl, -⟩ := eTest_next h
  · exact .tested _ htest
  · exact .raised x

theorem eConst_ends {v : EVal} (h : eConst v rd s = .next t) (hdest : f.dest = some (.e rd)) (htest : f.test = false)
    (hlegal : v.tagLegal = true) : CommandEnds f s t := by
  refine commandEnds_of_next h fun u hu => ?_
  obtain rfl := Except.ok.inj hu
  exact .wroteE rd _ hdest htest fun _ _ => hlegal

theorem eLoad_ends {n : Nat} {dec : List Byte → Except Exn α} (h : eLoad n dec tag rd s = .next t)
    (hdest : f.dest = some (.e rd)) (htest : f.test = false) (hlegal : ∀ a, (tag a).tagLegal = true) :
    CommandEnds f s t := by
  obtain ⟨B, a, -, -, rfl⟩ | ⟨x, rfl, -⟩ := eLoad_next h
  · exact .wroteE rd _ hdest htest fun _ _ => hlegal a
  · exact .raised x

theorem eStore_ends {enc : α → List Byte} (h : eStore accepts enc ra s = .next t) (hstore : f.store = true)
    (htest : f.test = false) (hlen : ∀ a, (enc a).length ≤ 384) : CommandEnds f s t := by
  obtain ⟨a, -, rfl⟩ | ⟨x, rfl, -⟩ := eStore_next h
  · exact .stored _ hstore htest (hlen a)
  · exact .raised x

end

/-! ## The shapes over the point files -/

section
variable {rd ra rb : PIdx}

theorem pBinary_ends {g : G1Point → G1Point → G1Point} (h : pBinary g rd ra rb s = .next t)
    (hdest : f.dest = some (.p rd)) (htest : f.test = false)
    (hcurve : ∀ A B, onCurve1 A = true → onCurve1 B = true → onCurve1 (g A B) = true) : CommandEnds f s t := by
  obtain ⟨d, a, b, A, B, hd, -, -, hA, hB, rfl⟩ | ⟨x, rfl⟩ := pBinary_next h
  · exact .wroteP rd d _ (pIdx_ok.1 hd) hdest htest fun hs => hcurve A B (pregs_onCurve hs hA) (pregs_onCurve hs hB)
  · exact .raised x

theorem pUnary_ends {g : G1Point → G1Point} (h : pUnary g rd ra s = .next t) (hdest : f.dest = some (.p rd))
    (htest : f.test = false) (hcurve : ∀ A, onCurve1 A = true → onCurve1 (g A) = true) : CommandEnds f s t := by
  obtain ⟨d, a, A, hd, -, hA, rfl⟩ | ⟨x, rfl⟩ := pUnary_next h
  · exact .wroteP rd d _ (pIdx_ok.1 hd) hdest htest fun hs => hcurve A (pregs_onCurve hs hA)
  · exact .raised x

theorem pTest2_ends {test : G1Point → G1Point → Bool} (h : pTest2 test ra rb s = .next t) (htest : f.test = true) :
    CommandEnds f s t := by
  obtain ⟨a, b, A, B, -, -, -, -, rfl⟩ | ⟨x, rfl⟩ := pTest2_next h
  · exact .tested _ htest
  · exact .raised x

theorem pTest_ends {test : G1Point → Bool} (h : pTest test ra s = .next t) (htest : f.test = true) :
    CommandEnds f s t := by
  obtain ⟨a, A, -, -, rfl⟩ | ⟨x, rfl⟩ := pTest_next h
  · exact .tested _ htest
  · exact .raised x

theorem pRequire_ends {ok : G1Point → Bool} {y : Exn} (h : pRequire ok y ra s = .next t) (htest : f.test = false) :
    CommandEnds f s t := by
  obtain ⟨a, A, -, -, -, rfl⟩ | ⟨x, rfl⟩ := pRequire_next h
  · exact .done htest
  · exact .raised x

theorem pConst_ends {A : G1Point} (h : pConst A rd s = .next t) (hdest : f.dest = some (.p rd)) (htest : f.test = false)
    (hcurve : onCurve1 A = true) : CommandEnds f s t := by
  obtain ⟨d, hd, rfl⟩ | ⟨x, rfl⟩ := pConst_next h
  · exact .wroteP rd d _ (pIdx_ok.1 hd) hdest htest fun _ => hcurve
  · exact .raised x

theorem pLoad_ends {n : Nat} {dec : List Byte → Except Exn G1Point} (h : pLoad n dec rd s = .next t)
    (hdest : f.dest = some (.p rd)) (htest : f.test = false)
    (hcurve : ∀ B A, dec B = .ok A → onCurve1 A = true) : CommandEnds f s t := by
  obtain ⟨d, B, A, hd, -, hA, rfl⟩ | ⟨x, rfl⟩ := pLoad_next h
  · exact .wroteP rd d _ (pIdx_ok.1 hd) hdest htest fun _ => hcurve B A hA
  · exact .raised x

theorem pStore_ends {enc : G1Point → List Byte} (h : pStore enc ra s = .next t) (hstore : f.store = true)
    (htest : f.test = false) (hlen : ∀ A, (enc A).length ≤ 384) : CommandEnds f s t := by
  obtain ⟨a, A, -, -, rfl⟩ | ⟨x, rfl⟩ := pStore_next h
  · exact .stored _ hstore htest (hlen A)
  · exact .raised x

end

section
variable {rd ra rb : QIdx}

theorem qBinary_ends {g : G2Point → G2Point → G2Point} (h : qBinary g rd ra rb s = .next t)
    (hdest : f.dest = some (.q rd)) (htest : f.test = false)
    (hcurve : ∀ A B, onCurve2 A = true → onCurve2 B = true → onCurve2 (g A B) = true) : CommandEnds f s t := by
  obtain ⟨d, a, b, A, B, hd, -, -, hA, hB, rfl⟩ | ⟨x, rfl⟩ := qBinary_next h
  · exact .wroteQ rd d _ (qIdx_ok.1 hd) hdest htest fun hs => hcurve A B (qregs_onCurve hs hA) (qregs_onCurve hs hB)
  · exact .raised x

theorem qUnary_ends {g : G2Point → G2Point} (h : qUnary g rd ra s = .next t) (hdest : f.dest = some (.q rd))
    (htest : f.test = false) (hcurve : ∀ A, onCurve2 A = true → onCurve2 (g A) = true) : CommandEnds f s t := by
  obtain ⟨d, a, A, hd, -, hA, rfl⟩ | ⟨x, rfl⟩ := qUnary_next h
  · exact .wroteQ rd d _ (qIdx_ok.1 hd) hdest htest fun hs => hcurve A (qregs_onCurve hs hA)
  · exact .raised x

theorem qTest2_ends {test : G2Point → G2Point → Bool} (h : qTest2 test ra rb s = .next t) (htest : f.test = true) :
    CommandEnds f s t := by
  obtain ⟨a, b, A, B, -, -, -, -, rfl⟩ | ⟨x, rfl⟩ := qTest2_next h
  · exact .tested _ htest
  · exact .raised x

theorem qTest_ends {test : G2Point → Bool} (h : qTest test ra s = .next t) (htest : f.test = true) :
    CommandEnds f s t := by
  obtain ⟨a, A, -, -, rfl⟩ | ⟨x, rfl⟩ := qTest_next h
  · exact .tested _ htest
  · exact .raised x

theorem qRequire_ends {ok : G2Point → Bool} {y : Exn} (h : qRequire ok y ra s = .next t) (htest : f.test = false) :
    CommandEnds f s t := by
  obtain ⟨a, A, -, -, -, rfl⟩ | ⟨x, rfl⟩ := qRequire_next h
  · exact .done htest
  · exact .raised x

theorem qConst_ends {A : G2Point} (h : qConst A rd s = .next t) (hdest : f.dest = some (.q rd)) (htest : f.test = false)
    (hcurve : onCurve2 A = true) : CommandEnds f s t := by
  obtain ⟨d, hd, rfl⟩ | ⟨x, rfl⟩ := qConst_next h
  · exact .wroteQ rd d _ (qIdx_ok.1 hd) hdest htest fun _ => hcurve
  · exact .raised x

theorem qLoad_ends {n : Nat} {dec : List Byte → Except Exn G2Point} (h : qLoad n dec rd s = .next t)
    (hdest : f.dest = some (.q rd)) (htest : f.test = false)
    (hcurve : ∀ B A, dec B = .ok A → onCurve2 A = true) : CommandEnds f s t := by
  obtain ⟨d, B, A, hd, -, hA, rfl⟩ | ⟨x, rfl⟩ := qLoad_next h
  · exact .wroteQ rd d _ (qIdx_ok.1 hd) hdest htest fun _ => hcurve B A hA
  · exact .raised x

theorem qStore_ends {enc : G2Point → List Byte} (h : qStore enc ra s = .next t) (hstore : f.store = true)
    (htest : f.test = false) (hlen : ∀ A, (enc A).length ≤ 384) : CommandEnds f s t := by
  obtain ⟨a, A, -, -, rfl⟩ | ⟨x, rfl⟩ := qStore_next h
  · exact .stored _ hstore htest (hlen A)
  · exact .raised x

end

end

/-! ## The commands with a meaning of their own -/

section
variable {s t : State}

theorem execNop_ends (h : execNop s = .next t) : CommandEnds (commandFacts .nop) s t :=
  commandEnds_of_next h fun _ hu => Except.ok.inj hu ▸ .done rfl

theorem execZeroize_ends (h : execZeroize s = .next t) : CommandEnds (commandFacts .zeroize) s t :=
  commandEnds_of_next h fun _ hu => Except.ok.inj hu ▸ .erased rfl rfl

theorem execPcClr_ends (h : execPcClr s = .next t) : CommandEnds (commandFacts .pcClr) s t :=
  commandEnds_of_next h fun _ hu => Except.ok.inj hu ▸ .cleared rfl rfl

theorem execEMov_ends {rd ra : EIdx} (h : execEMov rd ra s = .next t) : CommandEnds (commandFacts (.eMov rd ra)) s t := by
  refine commandEnds_of_next h fun u hu => ?_
  split at hu
  · cases hu
  · obtain rfl := pure_ok.1 hu
    exact .wroteE rd _ rfl rfl fun _ hs => eregs_tagLegal hs _

theorem execGtExp_ends {rd ra : EIdx} {rb : KIdx} (h : execGtExp rd ra rb s = .next t) :
    CommandEnds (commandFacts (.gtExp rd ra rb)) s t := by
  refine commandEnds_of_next h fun u hu => ?_
  obtain ⟨kb, -, h1⟩ := bind_ok.1 hu
  obtain ⟨a, ha, h2⟩ := bind_ok.1 h1
  obtain ⟨k, -, h3⟩ := bind_ok.1 h2
  obtain rfl := pure_ok.1 h3
  exact .wroteE rd _ rfl rfl fun _ hs => gt_tagLegal_pow (getE_asGt_tagLegal hs ha) _

theorem execGtToFp12_ends {rd ra : EIdx} (h : execGtToFp12 rd ra s = .next t) :
    CommandEnds (commandFacts (.gtToFp12 rd ra)) s t := by
  refine commandEnds_of_next h fun u hu => ?_
  obtain ⟨a, -, h1⟩ := bind_ok.1 hu
  obtain rfl := pure_ok.1 h1
  exact .wroteE rd _ rfl rfl fun _ _ => rfl

theorem execG1Smul_ends {rd ra : PIdx} {rb : KIdx} (h : execG1Smul rd ra rb s = .next t) :
    CommandEnds (commandFacts (.g1Smul rd ra rb)) s t := by
  refine commandEnds_of_next h fun u hu => ?_
  obtain ⟨d, hd, h1⟩ := bind_ok.1 hu
  obtain ⟨a, -, h2⟩ := bind_ok.1 h1
  obtain ⟨b, -, h3⟩ := bind_ok.1 h2
  obtain ⟨A, hA, h4⟩ := bind_ok.1 h3
  obtain ⟨k, -, h5⟩ := bind_ok.1 h4
  obtain rfl := pure_ok.1 h5
  exact .wroteP rd d _ (pIdx_ok.1 hd) rfl rfl fun hs => smul1_onCurve (pregs_onCurve hs (getP_ok.1 hA)) _

theorem execG2Smul_ends {rd ra : QIdx} {rb : KIdx} (h : execG2Smul rd ra rb s = .next t) :
    CommandEnds (commandFacts (.g2Smul rd ra rb)) s t := by
  refine commandEnds_of_next h fun u hu => ?_
  obtain ⟨d, hd, h1⟩ := bind_ok.1 hu
  obtain ⟨a, -, h2⟩ := bind_ok.1 h1
  obtain ⟨b, -, h3⟩ := bind_ok.1 h2
  obtain ⟨A, hA, h4⟩ := bind_ok.1 h3
  obtain ⟨k, -, h5⟩ := bind_ok.1 h4
  obtain rfl := pure_ok.1 h5
  exact .wroteQ rd d _ (qIdx_ok.1 hd) rfl rfl fun hs => smul2_onCurve (qregs_onCurve hs (getQ_ok.1 hA)) _

theorem execKLd_ends {rd : KIdx} (h : execKLd rd s = .next t) : CommandEnds (commandFacts (.kLd rd)) s t := by
  refine commandEnds_of_next h fun u hu => ?_
  obtain ⟨d, hd, h1⟩ := bind_ok.1 hu
  obtain ⟨B, -, h2⟩ := bind_ok.1 h1
  obtain rfl := pure_ok.1 h2
  exact .wroteK rd d _ (kIdx_ok.1 hd) rfl rfl

theorem execKClr_ends {rd : KIdx} (h : execKClr rd s = .next t) : CommandEnds (commandFacts (.kClr rd)) s t := by
  refine commandEnds_of_next h fun u hu => ?_
  obtain ⟨d, hd, h1⟩ := bind_ok.1 hu
  obtain rfl := pure_ok.1 h1
  exact .wroteK rd d _ (kIdx_ok.1 hd) rfl rfl

theorem execMiller_ends {rd : EIdx} {ra : PIdx} {rb : QIdx} (h : execMiller rd ra rb s = .next t) :
    CommandEnds (commandFacts (.miller rd ra rb)) s t := by
  refine commandEnds_of_next h fun u hu => ?_
  obtain ⟨a, -, h1⟩ := bind_ok.1 hu
  obtain ⟨b, -, h2⟩ := bind_ok.1 h1
  obtain ⟨A, hA, h3⟩ := bind_ok.1 h2
  obtain ⟨B, -, h4⟩ := bind_ok.1 h3
  obtain ⟨g, hg, h5⟩ := bind_ok.1 h4
  obtain rfl := pure_ok.1 h5
  exact .wroteE rd _ rfl rfl fun hs _ => mlo_tagLegal.2 (miller_ne_zero (pregs_onCurve hs (getP_ok.1 hA)) hg)

theorem execFinalExp_ends {rd ra : EIdx} (h : execFinalExp rd ra s = .next t) :
    CommandEnds (commandFacts (.finalExp rd ra)) s t := by
  refine commandEnds_of_next h fun u hu => ?_
  obtain ⟨g, -, h1⟩ := bind_ok.1 hu
  split at h1
  · cases h1
  · next hne =>
    obtain rfl := pure_ok.1 h1
    exact .wroteE rd _ rfl rfl fun _ _ => gt_tagLegal_finalExp hne

theorem execPair_ends {rd : EIdx} {ra : PIdx} {rb : QIdx} (h : execPair rd ra rb s = .next t) :
    CommandEnds (commandFacts (.pair rd ra rb)) s t := by
  refine commandEnds_of_next h fun u hu => ?_
  obtain ⟨a, -, h1⟩ := bind_ok.1 hu
  obtain ⟨b, -, h2⟩ := bind_ok.1 h1
  obtain ⟨A, hA, h3⟩ := bind_ok.1 h2
  obtain ⟨B, -, h4⟩ := bind_ok.1 h3
  obtain ⟨g, hg, h5⟩ := bind_ok.1 h4
  obtain rfl := pure_ok.1 h5
  exact .wroteE rd _ rfl rfl fun hs _ => pairing_tagLegal (pregs_onCurve hs (getP_ok.1 hA)) hg

theorem execPcPush1_ends {ra : PIdx} (h : execPcPush1 ra s = .next t) : CommandEnds (commandFacts (.pcPush1 ra)) s t := by
  refine commandEnds_of_next h fun u hu => ?_
  obtain ⟨a, -, h1⟩ := bind_ok.1 hu
  obtain ⟨A, hA, h2⟩ := bind_ok.1 h1
  split at h2
  · cases h2
  · next hlen =>
    obtain rfl := pure_ok.1 h2
    exact .pushed1 A rfl rfl (not_le.1 hlen) fun hs => pregs_onCurve hs (getP_ok.1 hA)

theorem execPcPush2_ends {ra : QIdx} (h : execPcPush2 ra s = .next t) : CommandEnds (commandFacts (.pcPush2 ra)) s t := by
  refine commandEnds_of_next h fun u hu => ?_
  obtain ⟨a, -, h1⟩ := bind_ok.1 hu
  obtain ⟨A, hA, h2⟩ := bind_ok.1 h1
  split at h2
  · cases h2
  · next hlen =>
    obtain rfl := pure_ok.1 h2
    exact .pushed2 A rfl rfl (not_le.1 hlen) fun hs => qregs_onCurve hs (getQ_ok.1 hA)

theorem execPcRun_ends (h : execPcRun s = .next t) : CommandEnds (commandFacts .pcRun) s t := by
  refine commandEnds_of_next h fun u hu => ?_
  obtain ⟨b, -, h1⟩ := bind_ok.1 hu
  obtain rfl := pure_ok.1 h1
  exact .checked b rfl rfl

end

/-! ## Every command -/

theorem encFp_length_le (a : Fp) : (encFp a).length ≤ 384 := by simp [encFp_length]
theorem encFp2_length_le (a : Fp2) : (encFp2 a).length ≤ 384 := by simp [encFp2_length]
theorem encFp6_length_le (a : Fp6) : (encFp6 a).length ≤ 384 := by simp [encFp6_length]
theorem encFp12_length_le (a : Fp12) : (encFp12 a).length ≤ 384 := by simp [encFp12_length]
theorem encG1_length_le (A : G1Point) : (encG1 A).length ≤ 384 := by simp [encG1_length]
theorem encG1C_length_le (A : G1Point) : (encG1C A).length ≤ 384 := by simp [encG1C_length]
theorem encG2_length_le (A : G2Point) : (encG2 A).length ≤ 384 := by simp [encG2_length]
theorem encG2C_length_le (A : G2Point) : (encG2C A).length ≤ 384 := by simp [encG2C_length]

/-- Every command ends in one of the ways its row allows. -/
theorem exec_ends (i : Instr) {s t : State} (h : exec i s = .next t) : CommandEnds (commandFacts i) s t := by
  cases i with
  | nop => exact execNop_ends h
  | zeroize => exact execZeroize_ends h
  | eMov _ _ => exact execEMov_ends h
  | fpAdd _ _ _ | fpSub _ _ _ | fpMul _ _ _ | fp2Add _ _ _ | fp2Sub _ _ _ | fp2Mul _ _ _ | fp6Add _ _ _
  | fp6Sub _ _ _ | fp6Mul _ _ _ | fp12Add _ _ _ | fp12Sub _ _ _ | fp12Mul _ _ _ =>
    exact eBinary_ends h rfl rfl fun _ _ _ _ _ => rfl
  | fpNeg _ _ | fpSqr _ _ | fp2Neg _ _ | fp2Sqr _ _ | fp6Neg _ _ | fp6Sqr _ _ | fp12Neg _ _ | fp12Sqr _ _ =>
    exact eUnary_ends h rfl rfl fun _ _ _ => rfl
  | fpInv _ _ | fp2Inv _ _ | fp6Inv _ _ | fp12Inv _ _ => exact eNonZero_ends h rfl rfl fun _ => rfl
  | fpEq _ _ | fp2Eq _ _ | fp6Eq _ _ | fp12Eq _ _ | gtEq _ _ => exact eTest2_ends h rfl
  | fpZero _ | fpOne _ | fp2Zero _ | fp2One _ | fp6Zero _ | fp6One _ | fp12Zero _ | fp12One _ =>
    exact eConst_ends h rfl rfl rfl
  | fpLd _ | fp2Ld _ | fp6Ld _ | fp12Ld _ => exact eLoad_ends h rfl rfl fun _ => rfl
  | fpSt _ => exact eStore_ends h rfl rfl encFp_length_le
  | fp2St _ => exact eStore_ends h rfl rfl encFp2_length_le
  | fp6St _ => exact eStore_ends h rfl rfl encFp6_length_le
  | fp12St _ | gtSt _ => exact eStore_ends h rfl rfl encFp12_length_le
  | gtMul _ _ _ => exact eBinary_ends h rfl rfl fun _ _ hs ha hb =>
      gt_tagLegal_mul (getE_asGt_tagLegal hs ha) (getE_asGt_tagLegal hs hb)
  | gtInv _ _ => exact eUnary_ends h rfl rfl fun _ hs ha => gt_tagLegal_inv (getE_asGt_tagLegal hs ha)
  | gtExp _ _ _ => exact execGtExp_ends h
  | gtIsOne _ => exact eTest_ends h rfl
  | gtOne _ => exact eConst_ends h rfl rfl gt_tagLegal_one
  | gtToFp12 _ _ => exact execGtToFp12_ends h
  | g1Add _ _ _ => exact pBinary_ends h rfl rfl fun _ _ => add1_onCurve
  | g1Dbl _ _ => exact pUnary_ends h rfl rfl fun _ => dbl1_onCurve
  | g1Neg _ _ => exact pUnary_ends h rfl rfl fun _ => neg1_onCurve
  | g1IsOnCurve _ | g1IsId _ => exact pTest_ends h rfl
  | g1Eq _ _ => exact pTest2_ends h rfl
  | g1ChkSub _ => exact pRequire_ends h rfl
  | g1SetId _ => exact pConst_ends h rfl rfl rfl
  | g1Gen _ => exact pConst_ends h rfl rfl g1Gen_onCurve
  | g1Ld _ => exact pLoad_ends h rfl rfl fun _ _ => decG1_onCurve
  | g1St _ => exact pStore_ends h rfl rfl encG1_length_le
  | g1Ldc _ => exact pLoad_ends h rfl rfl fun _ _ => decG1C_onCurve
  | g1Stc _ => exact pStore_ends h rfl rfl encG1C_length_le
  | g1Mov _ _ => exact pUnary_ends h rfl rfl fun _ => id
  | g1Smul _ _ _ => exact execG1Smul_ends h
  | g2Add _ _ _ => exact qBinary_ends h rfl rfl fun _ _ => add2_onCurve
  | g2Dbl _ _ => exact qUnary_ends h rfl rfl fun _ => dbl2_onCurve
  | g2Neg _ _ => exact qUnary_ends h rfl rfl fun _ => neg2_onCurve
  | g2IsOnCurve _ | g2IsId _ => exact qTest_ends h rfl
  | g2Eq _ _ => exact qTest2_ends h rfl
  | g2ChkSub _ => exact qRequire_ends h rfl
  | g2SetId _ => exact qConst_ends h rfl rfl rfl
  | g2Gen _ => exact qConst_ends h rfl rfl g2Gen_onCurve
  | g2Ld _ => exact qLoad_ends h rfl rfl fun _ _ => decG2_onCurve
  | g2St _ => exact qStore_ends h rfl rfl encG2_length_le
  | g2Ldc _ => exact qLoad_ends h rfl rfl fun _ _ => decG2C_onCurve
  | g2Stc _ => exact qStore_ends h rfl rfl encG2C_length_le
  | g2Mov _ _ => exact qUnary_ends h rfl rfl fun _ => id
  | g2Smul _ _ _ => exact execG2Smul_ends h
  | kLd _ => exact execKLd_ends h
  | kClr _ => exact execKClr_ends h
  | miller _ _ _ => exact execMiller_ends h
  | finalExp _ _ => exact execFinalExp_ends h
  | pair _ _ _ => exact execPair_ends h
  | mloMul _ _ _ => exact eBinary_ends h rfl rfl fun _ _ hs ha hb =>
      mlo_tagLegal.2 (fp12Mul_ne_zero (getE_asMlo_ne_zero hs ha) (getE_asMlo_ne_zero hs hb))
  | mloOne _ => exact eConst_ends h rfl rfl (mlo_tagLegal.2 fp12One_ne_zero)
  | pcClr => exact execPcClr_ends h
  | pcPush1 _ => exact execPcPush1_ends h
  | pcPush2 _ => exact execPcPush2_ends h
  | pcRun => exact execPcRun_ends h

end Sys2Proof.Machine
end

section
/-! The frames of a command (`10_state.md` R32, R40, R59), read off its ends. -/

namespace Sys2Proof.Machine

section
variable {f : CommandFacts} {s t : State}

theorem CommandEnds.control (h : CommandEnds f s t) :
    t.cmd = s.cmd ∧ t.inten = s.inten ∧ t.inputs = s.inputs ∧ t.reply = s.reply := by
  cases h <;> exact ⟨rfl, rfl, rfl, rfl⟩

/-! ## Registers and lists: only the destination changes -/

theorem CommandEnds.eregs_frame (h : CommandEnds f s t) (herases : f.erases = false) (r : EIdx)
    (hr : f.dest ≠ some (.e r)) : t.eregs[r.toNat]? = s.eregs[r.toNat]? := by
  cases h with
  | erased herased => simp [herased] at herases
  | wroteE rd v hdest =>
    have hne : rd.toNat ≠ r.toNat := fun h => hr (by rw [hdest, BitVec.eq_of_toNat_eq h])
    exact Vector.getElem?_set_ne (eIdx rd).isLt hne
  | _ => rfl

theorem CommandEnds.pregs_frame (h : CommandEnds f s t) (herases : f.erases = false) (r : PIdx)
    (hr : f.dest ≠ some (.p r)) : t.pregs[r.toNat]? = s.pregs[r.toNat]? := by
  cases h with
  | erased herased => simp [herased] at herases
  | wroteP rd d A hd hdest =>
    have hne : d.val ≠ r.toNat := fun h => hr (by rw [hdest, BitVec.eq_of_toNat_eq (hd.trans h)])
    exact Vector.getElem?_set_ne d.isLt hne
  | _ => rfl

theorem CommandEnds.qregs_frame (h : CommandEnds f s t) (herases : f.erases = false) (r : QIdx)
    (hr : f.dest ≠ some (.q r)) : t.qregs[r.toNat]? = s.qregs[r.toNat]? := by
  cases h with
  | erased herased => simp [herased] at herases
  | wroteQ rd d A hd hdest =>
    have hne : d.val ≠ r.toNat := fun h => hr (by rw [hdest, BitVec.eq_of_toNat_eq (hd.trans h)])
    exact Vector.getElem?_set_ne d.isLt hne
  | _ => rfl

theorem CommandEnds.kregs_frame (h : CommandEnds f s t) (herases : f.erases = false) (r : KIdx)
    (hr : f.dest ≠ some (.k r)) : t.kregs[r.toNat]? = s.kregs[r.toNat]? := by
  cases h with
  | erased herased => simp [herased] at herases
  | wroteK rd d k hd hdest =>
    have hne : d.val ≠ r.toNat := fun h => hr (by rw [hdest, BitVec.eq_of_toNat_eq (hd.trans h)])
    exact Vector.getElem?_set_ne d.isLt hne
  | _ => rfl

theorem CommandEnds.lists_frame (h : CommandEnds f s t) (herases : f.erases = false) (hlists : f.lists = false) :
    t.l1 = s.l1 ∧ t.l2 = s.l2 := by
  cases h with
  | erased herased => simp [herased] at herases
  | cleared hl | pushed1 _ hl | pushed2 _ hl | checked _ hl => simp [hl] at hlists
  | _ => exact ⟨rfl, rfl⟩

/-! ## The buffer: only stores change it, and only inside `IOBUF` -/

theorem CommandEnds.mem_frame (h : CommandEnds f s t) (herases : f.erases = false) (hstore : f.store = false) :
    t.mem = s.mem ∧ t.iolen = s.iolen := by
  cases h with
  | erased herased => simp [herased] at herases
  | stored _ hs => simp [hs] at hstore
  | _ => exact ⟨rfl, rfl⟩

theorem CommandEnds.byteAt_outside (h : CommandEnds f s t) (herases : f.erases = false) {a : Nat}
    (ha : a < 0x200 ∨ 0x380 ≤ a) : t.byteAt a = s.byteAt a := by
  cases h with
  | erased herased => simp [herased] at herases
  | stored B _ _ hlen => exact storedMem_outside hlen ha
  | _ => rfl

/-! ## The truth flag -/

theorem CommandEnds.truth_flag (h : CommandEnds f s t) (herr : s.status.err = false) (htv : s.status.tv = false)
    (ht : s.status.t = false) :
    (t.status.tv = true ↔ f.test = true ∧ t.status.err = false) ∧ (t.status.tv = false → t.status.t = false) := by
  cases h with
  | raised x => simp [htv, ht]
  | tested b htest => simp [htest, herr]
  | checked b _ htest => simp [htest, herr]
  | erased _ htest => simp [htest, htv, ht, State.erase]
  | done htest | wroteE _ _ _ htest | wroteP _ _ _ _ _ htest | wroteQ _ _ _ _ _ htest | wroteK _ _ _ _ _ htest
  | stored _ _ htest | cleared _ htest | pushed1 _ _ htest | pushed2 _ _ htest => simp [htest, htv, ht, storeBytes]

end

/-- Settles O42: each file by its own frame lemma. -/
theorem registerFrame : Obligations.RegisterFrame := by
  intro i s t h
  have hends := exec_ends i h
  obtain ⟨hcmd, hinten, hinputs, hreply⟩ := hends.control
  exact ⟨hcmd, hinten, hinputs, hreply, fun herases =>
    ⟨hends.eregs_frame herases, hends.pregs_frame herases, hends.qregs_frame herases, hends.kregs_frame herases,
      hends.lists_frame herases⟩⟩

/-- Settles O43: by whether the command stores. -/
theorem memoryFrame : Obligations.MemoryFrame := by
  intro i s t h herases
  have hends := exec_ends i h
  refine ⟨fun hstore => ?_, fun _ a ha => hends.byteAt_outside herases ha⟩
  obtain ⟨hmem, hiolen⟩ := hends.mem_frame herases hstore
  exact ⟨fun a => by rw [State.byteAt, hmem, State.byteAt], hiolen⟩

/-- Settles O44: by the ends of the command. -/
theorem truthFlagWriters : Obligations.TruthFlagWriters :=
  fun i _ _ h herr htv ht => (exec_ends i h).truth_flag herr htv ht

end Sys2Proof.Machine
end

section
/-! SUPPORT. Everything a step can do, once: the effect of a bus access (`20_memory.md` R70 to R82), and of an event
(`60_exceptions.md` R380). -/

namespace Sys2Proof.Machine

/-- What a bus access can do to the engine. -/
inductive AccessEnds (s : State) : State → Prop
  | unchanged : AccessEnds s s
  /-- The access was blocked. -/
  | blocked : AccessEnds s (s.setInt intOvr)
  /-- A command word was accepted. -/
  | accepted (w : Word) (hfatal : s.status.fatal = false) : AccessEnds s (s.accept w)
  /-- The soft reset. -/
  | reset : AccessEnds s s.hardReset
  | iolen (n : BitVec 9) (hfatal : s.status.fatal = false) : AccessEnds s { s with iolen := n }
  | inten (n : BitVec 4) : AccessEnds s { s with inten := n }
  | intstat (n : BitVec 4) : AccessEnds s { s with intstat := n }
  /-- A word of the buffer was written. -/
  | iobuf (offset : Nat) (data : Word) (hfatal : s.status.fatal = false) (hoffset : offset + 4 ≤ 384) :
      AccessEnds s (setIobufWord s offset data)

theorem targetOf_iobuf {addr : Addr} {offset : Nat} (h : targetOf addr = .iobuf offset) :
    iobufBase + offset = addr.toNat ∧ addr.toNat < iobufEnd := by
  unfold targetOf at h
  split at h
  case h_15 =>
    split at h
    · next hrange =>
      obtain rfl := Target.iobuf.inj h
      omega
    · cases h
  all_goals cases h

theorem blockedAccess_ends (s : State) : AccessEnds s (blockedAccess s).1 := .blocked

theorem guardedWrite_ends {s u : State} (h : s.status.fatal = false → AccessEnds s u) :
    AccessEnds s (guardedWrite s u).1 := by
  unfold guardedWrite
  split
  · exact .unchanged
  · next hfatal =>
    split
    · exact .blocked
    · exact h (Bool.eq_false_iff.2 hfatal)

theorem softReset_ends (s : State) (data : Word) : AccessEnds s (softReset s data) := by
  unfold softReset
  split
  · exact .reset
  · exact .unchanged

theorem busRead_ends (s : State) (addr : Addr) (bits : Nat) : AccessEnds s (busRead s addr bits).1 := by
  unfold busRead
  split
  · split
    · exact .unchanged
    · split
      · exact blockedAccess_ends s
      · exact .unchanged
    · split
      · exact blockedAccess_ends s
      · exact .unchanged
  · exact .unchanged

theorem ctlWrite_ends (s : State) (r : CtlReg) (data : Word) : AccessEnds s (ctlWrite s r data).1 := by
  cases r with
  | cmd => exact guardedWrite_ends (.accepted data)
  | ctrl => exact guardedWrite_ends fun _ => softReset_ends s data
  | iolen => exact guardedWrite_ends (.iolen _)
  | inten => exact .inten _
  | intstat => exact .intstat _
  | id | version | cap | status | errinfo | listcnt | etag0 | etag1 | vtag => exact .unchanged

theorem busWrite_ends (s : State) (addr : Addr) (bits : Nat) (data : Word) :
    AccessEnds s (busWrite s addr bits data).1 := by
  unfold busWrite
  split
  · next hok =>
    split
    · exact .unchanged
    · next offset htarget =>
      refine guardedWrite_ends fun hfatal => .iobuf offset data hfatal ?_
      obtain ⟨hbase, hend⟩ := targetOf_iobuf htarget
      simp only [accessOk, Bool.and_eq_true, decide_eq_true_eq] at hok
      simp only [iobufBase, iobufEnd] at hbase hend
      omega
    · exact ctlWrite_ends s _ data
  · exact .unchanged

/-- What a step can do to a state whose pending events have been updated. -/
inductive StepEnds (s : State) : State → Prop
  | unchanged : StepEnds s s
  /-- The running command completed. -/
  | completed (i : Instr) {t : State} (hbusy : s.status.busy = true) (h : CommandEnds (commandFacts i) s t) : StepEnds s t
  /-- The word in `CMD` was no command. -/
  | illegal (hbusy : s.status.busy = true) (e : Illegal) : StepEnds s (s.raised (illegalExn e))
  | answered {u : State} (r : BusReply) (h : AccessEnds s u) : StepEnds s (u.setReply r)
  | failed (hfatal : s.status.fatal = false) : StepEnds s s.integrityFail
  | reset : StepEnds s s.hardReset

theorem engineTurn_ends {s t : State} (h : engineTurn s = .next t) : StepEnds s t := by
  cases hbusy : s.status.busy with
  | false =>
    rw [engineTurn_idle hbusy] at h
    cases h
    exact .unchanged
  | true =>
    rw [engineTurn_busy hbusy] at h
    cases hdec : decode s.cmd with
    | ok i =>
      rw [completeCommand_ok hdec] at h
      exact .completed i hbusy (exec_ends i h)
    | error e =>
      rw [completeCommand_error hdec] at h
      cases h
      exact .illegal hbusy e

theorem applyInput_ends {ev : Input} {s t : State} (h : applyInput ev s = .next t) : StepEnds s t := by
  cases ev with
  | read addr bits =>
    cases h
    exact .answered _ (busRead_ends s addr bits)
  | write addr bits data =>
    cases h
    exact .answered _ (busWrite_ends s addr bits data)
  | engine => exact engineTurn_ends h
  | integrityFailure =>
    cases h
    cases hfatal : s.status.fatal with
    | false => exact .failed hfatal
    | true =>
      rw [State.integrityFail_of_fatal s hfatal]
      exact .unchanged
  | hardwareReset =>
    cases h
    exact .reset

/-- A step acts on the state but for the list of pending events. -/
theorem step_ends {s t : State} (h : step s = .next t) : ∃ rest, StepEnds (s.setInputs rest) t := by
  cases hin : s.inputs with
  | nil =>
    rw [step_nil hin] at h
    exact ⟨s.inputs, engineTurn_ends h⟩
  | cons ev rest =>
    rw [step_cons hin] at h
    exact ⟨rest, applyInput_ends h⟩

end Sys2Proof.Machine
end

section
/-! The invariants of every step (`10_state.md` R27, R34, R37, R38, R41, R42): each is kept by every end of a command, by every bus
access and by every event. -/

namespace Sys2Proof.Machine

/-- A property of all registers of a file survives a write of a value that has it. -/
theorem all_toList_set {α : Type} {n : Nat} {v : Vector α n} {p : α → Bool} (h : v.toList.all p = true) {i : Nat}
    (hi : i < n) {x : α} (hx : p x = true) : (v.set i x hi).toList.all p = true := by
  rw [List.all_eq_true] at h ⊢
  intro y hy
  rw [Vector.toList_set] at hy
  obtain hy | rfl := List.mem_or_eq_of_mem_set hy
  · exact h y hy
  · exact hx

theorem all_toList_replicate {α : Type} {p : α → Bool} (n : Nat) {x : α} (hx : p x = true) :
    (Vector.replicate n x).toList.all p = true := by
  simp [hx]

/-! ## Points (R27) -/

theorem reset_pointsOnCurve : State.reset.pointsOnCurve :=
  ⟨all_toList_replicate _ rfl, all_toList_replicate _ rfl, rfl, rfl⟩

theorem CommandEnds.pointsOnCurve {f : CommandFacts} {s t : State} (h : CommandEnds f s t) (hs : s.pointsOnCurve) :
    t.pointsOnCurve := by
  obtain ⟨hp, hq, h1, h2⟩ := id hs
  cases h with
  | erased => exact reset_pointsOnCurve
  | wroteP _ d A _ _ _ hcurve => exact ⟨all_toList_set hp d.isLt (hcurve hs), hq, h1, h2⟩
  | wroteQ _ d A _ _ _ hcurve => exact ⟨hp, all_toList_set hq d.isLt (hcurve hs), h1, h2⟩
  | cleared | checked => exact ⟨hp, hq, rfl, rfl⟩
  | pushed1 A _ _ _ hcurve =>
    refine ⟨hp, hq, ?_, h2⟩
    simp only [State.completed_l1, State.setLists_l1, List.all_append, h1, List.all_cons, hcurve hs, List.all_nil,
      Bool.and_true]
  | pushed2 A _ _ _ hcurve =>
    refine ⟨hp, hq, h1, ?_⟩
    simp only [State.completed_l2, State.setLists_l2, List.all_append, h2, List.all_cons, hcurve hs, List.all_nil,
      Bool.and_true]
  | raised | done | wroteE | wroteK | tested | stored => exact ⟨hp, hq, h1, h2⟩

theorem AccessEnds.pointsOnCurve {s t : State} (h : AccessEnds s t) (hs : s.pointsOnCurve) : t.pointsOnCurve := by
  cases h with
  | reset => exact reset_pointsOnCurve
  | _ => exact hs

theorem StepEnds.pointsOnCurve {s t : State} (h : StepEnds s t) (hs : s.pointsOnCurve) : t.pointsOnCurve := by
  cases h with
  | unchanged | illegal => exact hs
  | completed i _ hi => exact hi.pointsOnCurve hs
  | answered r ha => exact ha.pointsOnCurve hs
  | failed hfatal =>
    rw [State.integrityFail, if_neg (Bool.eq_false_iff.1 hfatal)]
    exact reset_pointsOnCurve
  | reset => exact reset_pointsOnCurve

/-- Settles O59: the group laws and the loads keep the curve, and nothing else writes a point. -/
theorem pointsStayOnCurve : Obligations.PointsStayOnCurve := by
  intro s t hs h
  obtain ⟨rest, hends⟩ := step_ends h
  exact hends.pointsOnCurve hs

/-! ## Tags (R34) -/

theorem reset_tagsLegal : State.reset.tagsLegal := all_toList_replicate _ rfl

theorem CommandEnds.tagsLegal {f : CommandFacts} {s t : State} (h : CommandEnds f s t) (hp : s.pointsOnCurve)
    (hs : s.tagsLegal) : t.tagsLegal := by
  cases h with
  | erased => exact reset_tagsLegal
  | wroteE rd v _ _ hlegal => exact all_toList_set hs (eIdx rd).isLt (hlegal hp hs)
  | _ => exact hs

theorem AccessEnds.tagsLegal {s t : State} (h : AccessEnds s t) (hs : s.tagsLegal) : t.tagsLegal := by
  cases h with
  | reset => exact reset_tagsLegal
  | _ => exact hs

theorem StepEnds.tagsLegal {s t : State} (h : StepEnds s t) (hp : s.pointsOnCurve) (hs : s.tagsLegal) :
    t.tagsLegal := by
  cases h with
  | unchanged | illegal => exact hs
  | completed i _ hi => exact hi.tagsLegal hp hs
  | answered r ha => exact ha.tagsLegal hs
  | failed hfatal =>
    rw [State.integrityFail, if_neg (Bool.eq_false_iff.1 hfatal)]
    exact reset_tagsLegal
  | reset => exact reset_tagsLegal

/-- Settles O60: the values written with tag `GT` or `MLO` are legal where they are made. -/
theorem tagsStayLegal : Obligations.TagsStayLegal := by
  intro s t hp hs h
  obtain ⟨rest, hends⟩ := step_ends h
  exact hends.tagsLegal hp hs

/-! ## Storage (R37, R38) -/

theorem reset_storageLegal : State.reset.storageLegal := ⟨reset_memWf, by decide, by decide⟩

theorem CommandEnds.storageLegal {f : CommandFacts} {s t : State} (h : CommandEnds f s t) (hs : s.storageLegal) :
    t.storageLegal := by
  obtain ⟨hmem, h1, h2⟩ := id hs
  cases h with
  | erased => exact reset_storageLegal
  | stored B _ _ hlen => exact ⟨storedMem_wf hmem hlen, h1, h2⟩
  | cleared | checked => exact ⟨hmem, Nat.zero_le _, Nat.zero_le _⟩
  | pushed1 A _ _ hlen =>
    refine ⟨hmem, ?_, h2⟩
    simp only [State.completed_l1, State.setLists_l1, List.length_append, List.length_singleton]
    omega
  | pushed2 A _ _ hlen =>
    refine ⟨hmem, h1, ?_⟩
    simp only [State.completed_l2, State.setLists_l2, List.length_append, List.length_singleton]
    omega
  | raised | done | wroteE | wroteP | wroteQ | wroteK | tested => exact hs

theorem AccessEnds.storageLegal {s t : State} (h : AccessEnds s t) (hs : s.storageLegal) : t.storageLegal := by
  obtain ⟨hmem, h1, h2⟩ := id hs
  cases h with
  | reset => exact reset_storageLegal
  | iobuf offset data _ hoffset =>
    refine ⟨memWriteBytes_wf hmem (Nat.le_add_right _ _) ?_, h1, h2⟩
    simp only [List.length_cons, List.length_nil, iobufBase, iobufEnd]
    omega
  | _ => exact hs

theorem StepEnds.storageLegal {s t : State} (h : StepEnds s t) (hs : s.storageLegal) : t.storageLegal := by
  cases h with
  | unchanged | illegal => exact hs
  | completed i _ hi => exact hi.storageLegal hs
  | answered r ha => exact ha.storageLegal hs
  | failed hfatal =>
    rw [State.integrityFail, if_neg (Bool.eq_false_iff.1 hfatal)]
    exact reset_storageLegal
  | reset => exact reset_storageLegal

/-- Settles O58: every write of the buffer is a canonical write, and a push needs a free place. -/
theorem storageStaysLegal : Obligations.StorageStaysLegal := by
  intro s t hs h
  obtain ⟨rest, hends⟩ := step_ends h
  exact hends.storageLegal hs

/-! ## Status (R41, R42) and the erased fatal state (`60_exceptions.md` R388) -/

/-- Every exception has a code that is not 0. -/
theorem Exn.errinfo_ne_zero (x : Exn) : x.errinfo ≠ 0#24 := by
  have hcode : 0 < x.code ∧ x.code < 256 := by cases x <;> simp [Exn.code]
  intro h
  have hnat := congrArg BitVec.toNat h
  simp only [Exn.errinfo, BitVec.toNat_ofNat] at hnat
  omega

theorem reset_statusLegal : State.reset.statusLegal := by decide

theorem reset_fatalLegal : State.reset.fatalLegal := nofun

/-- A busy engine is not fatal. -/
theorem State.statusLegal.not_fatal {s : State} (hs : s.statusLegal) (hbusy : s.status.busy = true) :
    s.status.fatal = false := by
  obtain ⟨-, -, -, hfatal, -⟩ := hs
  exact Bool.eq_false_iff.2 fun h => by simp [(hfatal h).1] at hbusy

theorem State.raised_statusLegal {s : State} (hs : s.statusLegal) (hbusy : s.status.busy = true) (x : Exn) :
    (s.raised x).statusLegal := by
  have hnf := hs.not_fatal hbusy
  obtain ⟨-, -, htv, ht⟩ := hs.1 hbusy
  simp [State.statusLegal, htv, ht, hnf, x.errinfo_ne_zero]

/-- A command runs while the flags of the last one are clear. -/
theorem CommandEnds.statusLegal {f : CommandFacts} {s t : State} (h : CommandEnds f s t) (hs : s.statusLegal)
    (hbusy : s.status.busy = true) : t.statusLegal := by
  have hnf := hs.not_fatal hbusy
  obtain ⟨hb, -, -, -, herrinfo⟩ := id hs
  obtain ⟨-, herr, htv, ht⟩ := hb hbusy
  have hzero : s.errinfo = 0#24 := by simpa [herr] using herrinfo
  cases h with
  | raised x => exact State.raised_statusLegal hs hbusy x
  | erased => simp [State.statusLegal, State.erase, htv, ht, hnf, herr, hzero]
  | tested | checked => simp [State.statusLegal, hnf, herr, hzero]
  | _ => simp [State.statusLegal, storeBytes, htv, ht, hnf, herr, hzero]

theorem CommandEnds.fatal_eq {f : CommandFacts} {s t : State} (h : CommandEnds f s t) :
    t.status.fatal = s.status.fatal := by
  cases h <;> rfl

theorem AccessEnds.statusLegal {s t : State} (h : AccessEnds s t) (hs : s.statusLegal) : t.statusLegal := by
  cases h with
  | accepted w hfatal => simp [State.statusLegal, hfatal]
  | reset => exact reset_statusLegal
  | _ => exact hs

/-- While fatal no access reaches what is erased. -/
theorem AccessEnds.fatalLegal {s t : State} (h : AccessEnds s t) (hs : s.fatalLegal) : t.fatalLegal := by
  cases h with
  | accepted _ hfatal | iolen _ hfatal | iobuf _ _ hfatal => exact fun h => absurd h (Bool.eq_false_iff.1 hfatal)
  | reset => exact reset_fatalLegal
  | unchanged | blocked | inten | intstat => exact hs

theorem State.integrityFail_legal {s : State} (hfatal : s.status.fatal = false) :
    s.integrityFail.statusLegal ∧ s.integrityFail.fatalLegal := by
  rw [State.integrityFail, if_neg (Bool.eq_false_iff.1 hfatal)]
  exact ⟨by simp [State.statusLegal, fatalErrinfo], fun _ => ⟨rfl, rfl, rfl, rfl, rfl, rfl, rfl, rfl, rfl⟩⟩

theorem StepEnds.statusLegal {s t : State} (h : StepEnds s t) (hs : s.statusLegal) (hf : s.fatalLegal) :
    t.statusLegal ∧ t.fatalLegal := by
  cases h with
  | unchanged => exact ⟨hs, hf⟩
  | completed i hbusy hi =>
    refine ⟨hi.statusLegal hs hbusy, fun h => ?_⟩
    rw [hi.fatal_eq, hs.not_fatal hbusy] at h
    cases h
  | illegal hbusy e =>
    refine ⟨State.raised_statusLegal hs hbusy _, fun h => ?_⟩
    rw [State.raised_fatal, hs.not_fatal hbusy] at h
    cases h
  | answered r ha => exact ⟨ha.statusLegal hs, ha.fatalLegal hf⟩
  | failed hfatal => exact State.integrityFail_legal hfatal
  | reset => exact ⟨reset_statusLegal, reset_fatalLegal⟩

/-- Settles O57: commands run from clear flags, and while fatal neither a command nor an access reaches the state. -/
theorem statusStaysLegal : Obligations.StatusStaysLegal := by
  intro s t hs hf h
  obtain ⟨rest, hends⟩ := step_ends h
  exact hends.statusLegal hs hf

/-! ## The state after reset (R63) -/

/-- Settles O53: every register is EMPTY, and the invariants hold. -/
theorem resetState : Obligations.ResetState := by
  refine ⟨fun i v h => ?_, fun i A h => ?_, fun i A h => ?_, fun i k h => ?_, rfl, rfl, fun _ => rfl, rfl, by decide, rfl,
    rfl, rfl, rfl, by decide, by decide, by decide, by decide, by decide, reset_statusLegal, reset_storageLegal,
    reset_pointsOnCurve, reset_tagsLegal, reset_fatalLegal⟩
  · simpa [State.reset, eq_comm] using (holdsE_iff _ _ _).1 h
  · obtain ⟨d, -, hd⟩ := (holdsP_iff _ _ _).1 h
    simp [State.reset] at hd
  · obtain ⟨d, -, hd⟩ := (holdsQ_iff _ _ _).1 h
    simp [State.reset] at hd
  · obtain ⟨d, -, hd⟩ := (holdsK_iff _ _ _).1 h
    simp [State.reset] at hd

end Sys2Proof.Machine
end

section
/-! The words the control registers read as (`10_state.md` R41 to R48). -/

namespace Sys2Proof.Machine

/-! ## Packed words -/

theorem packBits_lt (bs : List Bool) : packBits bs < 2 ^ bs.length := by
  induction bs with
  | nil => simp [packBits]
  | cons b bs ih =>
    have hb := b.toNat_le
    rw [packBits, List.length_cons, pow_succ]
    omega

theorem testBit_packBits (bs : List Bool) (i : Nat) : (packBits bs).testBit i = bs.getD i false := by
  induction bs generalizing i with
  | nil => simp [packBits]
  | cons b bs ih =>
    have hb := b.toNat_le
    cases i with
    | zero => cases b <;> simp [packBits, Nat.testBit_zero]
    | succ i =>
      rw [Nat.testBit_succ, packBits, show (b.toNat + 2 * packBits bs) / 2 = packBits bs by omega, ih]
      rfl

theorem getLsbD_packBits {bs : List Bool} {i : Nat} {b : Bool} (hi : i < 32) (hb : bs[i]? = some b) :
    (BitVec.ofNat 32 (packBits bs)).getLsbD i = b := by
  rw [BitVec.getLsbD_ofNat, testBit_packBits, List.getD_eq_getElem?_getD, hb, decide_eq_true hi]
  rfl

theorem toNat_packBits_lt {bs : List Bool} {n : Nat} (hlen : bs.length = n) :
    (BitVec.ofNat 32 (packBits bs)).toNat < 2 ^ n := by
  rw [BitVec.toNat_ofNat, ← hlen]
  exact (Nat.mod_le _ _).trans_lt (packBits_lt bs)

theorem packNibbles_digit {ds : List Nat} (hds : ∀ d ∈ ds, d < 16) {i d : Nat} (hd : ds[i]? = some d) :
    packNibbles ds / 16 ^ i % 16 = d := by
  induction ds generalizing i with
  | nil => simp at hd
  | cons e ds ih =>
    have he := hds e List.mem_cons_self
    cases i with
    | zero =>
      obtain rfl : e = d := by simpa using hd
      rw [packNibbles]
      omega
    | succ i =>
      rw [packNibbles, pow_succ', ← Nat.div_div_eq_div_mul, show (e + 16 * packNibbles ds) / 16 = packNibbles ds by omega]
      exact ih (fun x hx => hds x (List.mem_cons_of_mem e hx)) hd

theorem extractLsb_packNibbles {ds : List Nat} (hds : ∀ d ∈ ds, d < 16) {i d : Nat} (hi : i < 8) (hd : ds[i]? = some d) :
    ((BitVec.ofNat 32 (packNibbles ds)).extractLsb' (4 * i) 4).toNat = d := by
  have h32 : 2 ^ 32 = 16 ^ i * (16 * 16 ^ (7 - i)) := by
    rw [← pow_succ', ← pow_add, show i + (7 - i + 1) = 8 by omega]
    rfl
  rw [BitVec.extractLsb'_toNat, BitVec.toNat_ofNat, Nat.shiftRight_eq_div_pow, pow_mul, h32, show 2 ^ 4 = 16 from rfl,
    Nat.mod_mul_right_div_self, Nat.mod_mul_right_mod, packNibbles_digit hds hd]

theorem EVal.tag_lt (v : EVal) : v.tag < 16 := by cases v <;> simp [EVal.tag]

/-! ## Reads -/

theorem ctlWord_setInputs (s : State) (rest : List Input) (r : CtlReg) : ctlWord (s.setInputs rest) r = ctlWord s r := by
  cases r <;> rfl

/-- A read of a control register while idle answers its word and changes nothing. -/
theorem step_read_ctl {s : State} {rest : List Input} {addr : Addr} {r : CtlReg} (hbusy : s.status.busy = false)
    (haligned : addr.toNat % 4 = 0) (htarget : targetOf addr = .ctl r) (hin : s.inputs = .read addr 32 :: rest) :
    step s = .next (s.answeredOnly rest .okay (ctlWord s r)) := by
  have hblocking : blocking (s.setInputs rest) = false := by
    simp only [blocking, State.setInputs_status, hbusy, Bool.false_and]
  rw [step_cons hin, applyInput, busRead]
  simp only [accessOk, haligned, htarget, hblocking, ctlWord_setInputs, decide_true, Bool.and_self, if_true,
    Bool.false_and, Bool.false_eq_true, if_false]
  rfl

section
variable {s : State} {rest : List Input}

theorem constant_reads (hbusy : s.status.busy = false) :
    ∀ c ∈ [(0x000#12, 0x424E5045#32), (0x004#12, 0x00010000#32), (0x008#12, 0x00822110#32), (0x00C#12, 0#32)],
      s.inputs = .read c.1 32 :: rest → step s = .next (s.answeredOnly rest .okay c.2) := by
  simp only [List.forall_mem_cons, List.not_mem_nil, false_imp_iff, implies_true, and_true]
  exact ⟨step_read_ctl (r := .id) hbusy rfl rfl, step_read_ctl (r := .version) hbusy rfl rfl,
    step_read_ctl (r := .cap) hbusy rfl rfl, step_read_ctl (r := .ctrl) hbusy rfl rfl⟩

theorem value_reads (hbusy : s.status.busy = false) (h1 : s.l1.length ≤ 8) (h2 : s.l2.length ≤ 8) :
    ∀ c ∈ [(0x014#12, s.errinfo.toNat), (0x018#12, s.cmd.toNat), (0x01C#12, s.iolen.toNat), (0x020#12, s.inten.toNat),
        (0x024#12, s.intstat.toNat), (0x028#12, s.l1.length + 256 * s.l2.length)],
      s.inputs = .read c.1 32 :: rest → ∃ w : Word, step s = .next (s.answeredOnly rest .okay w) ∧ w.toNat = c.2 := by
  simp only [List.forall_mem_cons, List.not_mem_nil, false_imp_iff, implies_true, and_true]
  refine ⟨fun hin => ⟨_, step_read_ctl (r := .errinfo) hbusy rfl rfl hin, ?_⟩,
    fun hin => ⟨_, step_read_ctl (r := .cmd) hbusy rfl rfl hin, rfl⟩,
    fun hin => ⟨_, step_read_ctl (r := .iolen) hbusy rfl rfl hin, ?_⟩,
    fun hin => ⟨_, step_read_ctl (r := .inten) hbusy rfl rfl hin, ?_⟩,
    fun hin => ⟨_, step_read_ctl (r := .intstat) hbusy rfl rfl hin, ?_⟩,
    fun hin => ⟨_, step_read_ctl (r := .listcnt) hbusy rfl rfl hin, ?_⟩⟩
  · exact BitVec.toNat_setWidth_of_le (by decide)
  · exact BitVec.toNat_setWidth_of_le (by decide)
  · exact BitVec.toNat_setWidth_of_le (by decide)
  · exact BitVec.toNat_setWidth_of_le (by decide)
  · simp only [ctlWord, listcntWord, BitVec.toNat_ofNat]
    omega

theorem status_read (hbusy : s.status.busy = false) (hin : s.inputs = .read 0x010#12 32 :: rest) :
    ∃ w : Word, step s = .next (s.answeredOnly rest .okay w) ∧
      w.getLsbD 0 = s.status.busy ∧ w.getLsbD 1 = s.status.done ∧ w.getLsbD 2 = s.status.err ∧
      w.getLsbD 3 = s.status.fatal ∧ w.getLsbD 4 = s.status.tv ∧ w.getLsbD 5 = s.status.t ∧ w.toNat < 64 :=
  ⟨statusWord s.status, step_read_ctl (r := .status) hbusy rfl rfl hin, getLsbD_packBits (by decide) rfl,
    getLsbD_packBits (by decide) rfl, getLsbD_packBits (by decide) rfl, getLsbD_packBits (by decide) rfl,
    getLsbD_packBits (by decide) rfl, getLsbD_packBits (by decide) rfl, toNat_packBits_lt rfl⟩

theorem etag_reads (hbusy : s.status.busy = false) :
    ∀ c ∈ [(0x02C#12, 0), (0x030#12, 8)], s.inputs = .read c.1 32 :: rest →
      ∃ w : Word, step s = .next (s.answeredOnly rest .okay w) ∧
        ∀ (i : Nat) (v : EVal), i < 8 → s.eregs[c.2 + i]? = some v → (w.extractLsb' (4 * i) 4).toNat = v.tag := by
  have htags {l : List EVal} : ∀ d ∈ l.map EVal.tag, d < 16 := by
    simp only [List.forall_mem_map]
    exact fun v _ => v.tag_lt
  simp only [List.forall_mem_cons, List.not_mem_nil, false_imp_iff, implies_true, and_true]
  refine ⟨fun hin => ⟨etag0Word s, step_read_ctl (r := .etag0) hbusy rfl rfl hin, fun i v hi hv => ?_⟩,
    fun hin => ⟨etag1Word s, step_read_ctl (r := .etag1) hbusy rfl rfl hin, fun i v hi hv => ?_⟩⟩
  · refine extractLsb_packNibbles htags hi ?_
    rw [List.getElem?_map, List.getElem?_take_of_lt hi, Vector.getElem?_toList, ← Nat.zero_add i, hv]
    rfl
  · refine extractLsb_packNibbles htags hi ?_
    rw [List.getElem?_map, List.getElem?_drop, Vector.getElem?_toList, hv]
    rfl

theorem getElem?_map_isSome {α : Type} {n i : Nat} {v : Vector (Option α) n} {r : Option α} (h : v[i]? = some r) :
    (v.toList.map Option.isSome)[i]? = some r.isSome := by
  rw [List.getElem?_map, Vector.getElem?_toList, h]
  rfl

theorem vtag_read (hbusy : s.status.busy = false) (hin : s.inputs = .read 0x034#12 32 :: rest) :
    ∃ w : Word, step s = .next (s.answeredOnly rest .okay w) ∧
      (∀ i (r : Option G1Point), s.pregs[i]? = some r → w.getLsbD i = r.isSome) ∧
      (∀ i (r : Option G2Point), s.qregs[i]? = some r → w.getLsbD (8 + i) = r.isSome) ∧
      (∀ i (r : Option (BitVec 256)), s.kregs[i]? = some r → w.getLsbD (16 + i) = r.isSome) ∧ w.toNat < 2 ^ 20 := by
  have hP : (s.pregs.toList.map Option.isSome).length = 8 := by simp [Config.NP]
  have hQ : (s.qregs.toList.map Option.isSome).length = 8 := by simp [Config.NQ]
  have hK : (s.kregs.toList.map Option.isSome).length = 4 := by simp [Config.NK]
  refine ⟨vtagWord s, step_read_ctl (r := .vtag) hbusy rfl rfl hin, fun i r hr => ?_, fun i r hr => ?_, fun i r hr => ?_,
    toNat_packBits_lt (by simp only [List.length_append, hP, hQ, hK])⟩
  · have hi : i < 8 := (Vector.getElem?_eq_some_iff.1 hr).1
    refine getLsbD_packBits (by omega) ?_
    rw [List.append_assoc, List.getElem?_append_left (by omega), getElem?_map_isSome hr]
  · have hi : i < 8 := (Vector.getElem?_eq_some_iff.1 hr).1
    refine getLsbD_packBits (by omega) ?_
    rw [List.append_assoc, List.getElem?_append_right (by omega), hP, Nat.add_sub_cancel_left,
      List.getElem?_append_left (by omega), getElem?_map_isSome hr]
  · have hi : i < 4 := (Vector.getElem?_eq_some_iff.1 hr).1
    refine getLsbD_packBits (by omega) ?_
    rw [List.getElem?_append_right (by rw [List.length_append]; omega), List.length_append, hP, hQ,
      Nat.add_sub_cancel_left, getElem?_map_isSome hr]

end

/-- Settles O52: a read answers the word of its register, and each word is taken apart bit by bit. -/
theorem registerReads : Obligations.RegisterReads :=
  fun _ _ hbusy h1 h2 => ⟨constant_reads hbusy, status_read hbusy, value_reads hbusy h1 h2, etag_reads hbusy,
    vtag_read hbusy⟩

end Sys2Proof.Machine
end

section
/-! SUPPORT. The slave port, access by access (`20_memory.md` R70 to R82, `10_state.md` R49): what each address selects, and for each
target what a read and a write do. -/

namespace Sys2Proof.Machine

/-! ## Addresses -/

/-- The address of a control register (`10_state.md` R49). -/
def CtlReg.addr : CtlReg → Addr
  | .id => 0x000
  | .version => 0x004
  | .cap => 0x008
  | .ctrl => 0x00C
  | .status => 0x010
  | .errinfo => 0x014
  | .cmd => 0x018
  | .iolen => 0x01C
  | .inten => 0x020
  | .intstat => 0x024
  | .listcnt => 0x028
  | .etag0 => 0x02C
  | .etag1 => 0x030
  | .vtag => 0x034

@[simp] theorem targetOf_addr (r : CtlReg) : targetOf r.addr = .ctl r := by cases r <;> rfl

@[simp] theorem accessOk_addr (r : CtlReg) : accessOk r.addr 32 = true := by cases r <;> rfl

/-- Behind the registers the map holds the buffer and nothing else. -/
theorem targetOf_of_registers_lt {addr : Addr} (h : 0x038 ≤ addr.toNat) :
    targetOf addr =
      if iobufBase ≤ addr.toNat ∧ addr.toNat < iobufEnd then .iobuf (addr.toNat - iobufBase) else .unmapped := by
  unfold targetOf
  split
  case h_15 => rfl
  all_goals omega

theorem targetOf_unmapped {addr : Addr} (h : (0x038 ≤ addr.toNat ∧ addr.toNat ≤ 0x1FF) ∨ 0x380 ≤ addr.toNat) :
    targetOf addr = .unmapped := by
  rw [targetOf_of_registers_lt (by omega), if_neg (by simp only [iobufBase, iobufEnd]; omega)]

theorem targetOf_buffer {addr : Addr} (hlo : 0x200 ≤ addr.toNat) (hhi : addr.toNat < 0x380) :
    targetOf addr = .iobuf (addr.toNat - iobufBase) := by
  rw [targetOf_of_registers_lt (by omega), if_pos ⟨hlo, hhi⟩]

theorem accessOk_of_aligned {addr : Addr} (h : addr.toNat % 4 = 0) : accessOk addr 32 = true := by
  simp [accessOk, h]

theorem accessOk_eq_false {addr : Addr} {bits : Nat} (h : bits ≠ 32 ∨ addr.toNat % 4 ≠ 0) :
    accessOk addr bits = false := by
  simpa [accessOk, ← not_and_or] using h

/-- The address of word `j` of the buffer. -/
theorem toNat_wordAddr {j : Nat} (hj : j < 96) : (BitVec.ofNat 12 (0x200 + 4 * j)).toNat = 0x200 + 4 * j := by
  rw [BitVec.toNat_ofNat]
  omega

theorem targetOf_wordAddr {j : Nat} (hj : j < 96) : targetOf (BitVec.ofNat 12 (0x200 + 4 * j)) = .iobuf (4 * j) := by
  have haddr := toNat_wordAddr hj
  rw [targetOf_buffer (by omega) (by omega), haddr, iobufBase, Nat.add_sub_cancel_left]

theorem accessOk_wordAddr {j : Nat} (hj : j < 96) : accessOk (BitVec.ofNat 12 (0x200 + 4 * j)) 32 = true :=
  accessOk_of_aligned (by rw [toNat_wordAddr hj]; omega)

section
variable {s u : State} {addr : Addr} {bits offset : Nat} {data : Word} {r : CtlReg} {reply : BusReply} {rest : List Input}

/-! ## Blocking -/

theorem blocking_eq_true (hbusy : s.status.busy = true) (hfatal : s.status.fatal = false) : blocking s = true := by
  simp [blocking, hbusy, hfatal]

theorem blocking_of_idle (hbusy : s.status.busy = false) : blocking s = false := by
  simp [blocking, hbusy]

theorem blocking_of_fatal (hfatal : s.status.fatal = true) : blocking s = false := by
  simp [blocking, hfatal]

theorem guardedWrite_of_fatal (hfatal : s.status.fatal = true) : guardedWrite s u = (s, okay 0) := by
  simp [guardedWrite, hfatal]

theorem guardedWrite_of_busy (hbusy : s.status.busy = true) (hfatal : s.status.fatal = false) :
    guardedWrite s u = blockedAccess s := by
  simp [guardedWrite, hbusy, hfatal]

theorem guardedWrite_of_idle (hbusy : s.status.busy = false) (hfatal : s.status.fatal = false) :
    guardedWrite s u = (u, okay 0) := by
  simp [guardedWrite, hbusy, hfatal]

/-! ## Reads and writes, by target -/

theorem busRead_slverr (h : accessOk addr bits = false ∨ targetOf addr = .unmapped) :
    busRead s addr bits = (s, slverr) := by
  obtain h | h := h <;> simp [busRead, h]

theorem busWrite_slverr (h : accessOk addr bits = false ∨ targetOf addr = .unmapped) :
    busWrite s addr bits data = (s, slverr) := by
  obtain h | h := h <;> simp [busWrite, h]

theorem busRead_buffer (hok : accessOk addr bits = true) (htarget : targetOf addr = .iobuf offset) :
    busRead s addr bits = if blocking s then blockedAccess s else (s, okay (iobufWord s offset)) := by
  simp only [busRead, hok, htarget, if_true]

theorem busWrite_buffer (hok : accessOk addr bits = true) (htarget : targetOf addr = .iobuf offset) :
    busWrite s addr bits data = guardedWrite s (setIobufWord s offset data) := by
  simp only [busWrite, hok, htarget, if_true]

theorem busRead_register (s : State) (r : CtlReg) :
    busRead s r.addr 32 = if blocking s && readBlocked r then blockedAccess s else (s, okay (ctlWord s r)) := by
  simp only [busRead, accessOk_addr, targetOf_addr, if_true]

theorem busWrite_register (s : State) (r : CtlReg) (data : Word) : busWrite s r.addr 32 data = ctlWrite s r data := by
  simp only [busWrite, accessOk_addr, targetOf_addr, if_true]

/-- The registers a write of which has no effect (R76). -/
def readOnlyRegs : List CtlReg := [.id, .version, .cap, .status, .errinfo, .listcnt, .etag0, .etag1, .vtag]

theorem ctlWrite_readOnly (h : r ∈ readOnlyRegs) : ctlWrite s r data = (s, okay 0) := by
  cases r with
  | id | version | cap | status | errinfo | listcnt | etag0 | etag1 | vtag => rfl
  | ctrl | cmd | iolen | inten | intstat => simp [readOnlyRegs] at h

/-- The registers a write of which acts only while idle and not fatal (R79, R81, R82). -/
def guardedRegs : List CtlReg := [.ctrl, .cmd, .iolen]

theorem ctlWrite_guarded (h : r ∈ guardedRegs) : ∃ u, ctlWrite s r data = guardedWrite s u := by
  cases r with
  | ctrl | cmd | iolen => exact ⟨_, rfl⟩
  | id | version | cap | status | errinfo | inten | intstat | listcnt | etag0 | etag1 | vtag => simp [guardedRegs] at h

/-- A write of a guarded register or of the buffer is a guarded write. -/
theorem busWrite_guarded (h : addr ∈ guardedRegs.map CtlReg.addr ∨
    (0x200 ≤ addr.toNat ∧ addr.toNat < 0x380 ∧ addr.toNat % 4 = 0)) :
    ∃ u, busWrite s addr 32 data = guardedWrite s u := by
  obtain h | ⟨hlo, hhi, haligned⟩ := h
  · obtain ⟨r, hr, rfl⟩ := List.mem_map.1 h
    rw [busWrite_register]
    exact ctlWrite_guarded hr
  · exact ⟨_, busWrite_buffer (accessOk_of_aligned haligned) (targetOf_buffer hlo hhi)⟩

/-- The registers a read of which is blocked while busy (R81). -/
def blockedReadRegs : List CtlReg := [.iolen, .listcnt, .etag0, .etag1, .vtag]

theorem readBlocked_eq_true (h : r ∈ blockedReadRegs) : readBlocked r = true := by
  cases r with
  | iolen | listcnt | etag0 | etag1 | vtag => rfl
  | id | version | cap | ctrl | status | errinfo | cmd | inten | intstat => simp [blockedReadRegs] at h

/-- A read of a blocked register or of the buffer while accesses are blocked. -/
theorem busRead_blocked (hblocking : blocking s = true) (h : addr ∈ blockedReadRegs.map CtlReg.addr ∨
    (0x200 ≤ addr.toNat ∧ addr.toNat < 0x380 ∧ addr.toNat % 4 = 0)) : busRead s addr 32 = blockedAccess s := by
  obtain h | ⟨hlo, hhi, haligned⟩ := h
  · obtain ⟨r, hr, rfl⟩ := List.mem_map.1 h
    rw [busRead_register, hblocking, readBlocked_eq_true hr]
    rfl
  · rw [busRead_buffer (accessOk_of_aligned haligned) (targetOf_buffer hlo hhi), if_pos hblocking]

/-- A read changes nothing while accesses are not blocked. -/
theorem busRead_unchanged (h : blocking s = false) : (busRead s addr bits).1 = s := by
  unfold busRead
  split
  · split <;> simp [h]
  · rfl

/-! ## Steps -/

theorem step_read (hin : s.inputs = .read addr bits :: rest) (h : busRead (s.setInputs rest) addr bits = (u, reply)) :
    step s = .next (u.setReply reply) := by
  rw [step_cons hin, applyInput, h, answered]

theorem step_write (hin : s.inputs = .write addr bits data :: rest)
    (h : busWrite (s.setInputs rest) addr bits data = (u, reply)) : step s = .next (u.setReply reply) := by
  rw [step_cons hin, applyInput, h, answered]

theorem step_read_okay (hin : s.inputs = .read addr bits :: rest)
    (h : busRead (s.setInputs rest) addr bits = (s.setInputs rest, okay data)) :
    step s = .next (s.answeredOnly rest .okay data) := step_read hin h

/-- A read of a register that is not blocked answers its word. -/
theorem step_read_register (r : CtlReg) (hblocked : (blocking s && readBlocked r) = false)
    (hin : s.inputs = .read r.addr 32 :: rest) : step s = .next (s.answeredOnly rest .okay (ctlWord s r)) := by
  refine step_read_okay hin ?_
  rw [busRead_register, ctlWord_setInputs]
  exact if_neg (Bool.eq_false_iff.1 hblocked)

theorem step_write_register (r : CtlReg) (hin : s.inputs = .write r.addr 32 data :: rest)
    (h : ctlWrite (s.setInputs rest) r data = (u, reply)) : step s = .next (u.setReply reply) :=
  step_write hin ((busWrite_register _ _ _).trans h)

end

/-! ## Words of the buffer (R73) -/

theorem setIobufWord_byteAt_inside {s : State} {offset i : Nat} (data : Word) (hm : memWf s.mem = true)
    (hoffset : offset + 4 ≤ 384) (hi : i < 4) :
    (setIobufWord s offset data).byteAt (0x200 + offset + i) = data.extractLsb' (8 * i) 8 := by
  have hbytes := memRead_memWriteBytes_inside (k := i)
    (B := [data.extractLsb' 0 8, data.extractLsb' 8 8, data.extractLsb' 16 8, data.extractLsb' 24 8]) hm
    (Nat.le_add_right iobufBase offset) (by simp only [List.length_cons, List.length_nil, iobufBase, iobufEnd]; omega) hi
  refine hbytes.trans ?_
  interval_cases i <;> rfl

theorem setIobufWord_byteAt_outside {s : State} {offset a : Nat} (data : Word)
    (ha : ∀ i, i < 4 → a ≠ 0x200 + offset + i) : (setIobufWord s offset data).byteAt a = s.byteAt a := by
  have hrange : a < iobufBase + offset ∨ iobufBase + offset + 4 ≤ a := by
    by_contra hin
    simp only [iobufBase] at hin
    exact ha (a - (0x200 + offset)) (by omega) (by omega)
  exact memRead_memWriteBytes_outside hrange

theorem toNat_append_eq_add {m n : Nat} (x : BitVec m) (y : BitVec n) :
    (x ++ y).toNat = x.toNat * 2 ^ n + y.toNat := by
  rw [BitVec.toNat_append, ← Nat.shiftLeft_add_eq_or_of_lt y.isLt, Nat.shiftLeft_eq]

theorem iobufWord_toNat (s : State) (offset : Nat) :
    (iobufWord s offset).toNat = (s.byteAt (0x200 + offset)).toNat + 256 * (s.byteAt (0x200 + offset + 1)).toNat +
      65536 * (s.byteAt (0x200 + offset + 2)).toNat + 16777216 * (s.byteAt (0x200 + offset + 3)).toNat := by
  have hlanes : (iobufWord s offset).toNat =
      (((s.byteAt (0x200 + offset + 3)).toNat * 2 ^ 8 + (s.byteAt (0x200 + offset + 2)).toNat) * 2 ^ 8 +
        (s.byteAt (0x200 + offset + 1)).toNat) * 2 ^ 8 + (s.byteAt (0x200 + offset)).toNat := by
    simp only [iobufWord, toNat_append_eq_add]
    rfl
  omega

theorem iobufWord_lane (s : State) (offset : Nat) {i : Nat} (hi : i < 4) :
    (iobufWord s offset).extractLsb' (8 * i) 8 = s.byteAt (0x200 + offset + i) := by
  apply BitVec.eq_of_toNat_eq
  rw [BitVec.extractLsb'_toNat, Nat.shiftRight_eq_div_pow, iobufWord_toNat]
  have h0 := (s.byteAt (0x200 + offset)).isLt
  have h1 := (s.byteAt (0x200 + offset + 1)).isLt
  have h2 := (s.byteAt (0x200 + offset + 2)).isLt
  have h3 := (s.byteAt (0x200 + offset + 3)).isLt
  interval_cases i
  · change _ = (s.byteAt (0x200 + offset)).toNat
    omega
  all_goals omega

end Sys2Proof.Machine
end

section
/-! What a bus access does (`20_memory.md` R72, R73, R75, R76, R79, R81), read off the lemmas of the port. -/

namespace Sys2Proof.Machine

/-- Settles O45: the address selects nothing. -/
theorem unmappedAccessIsSlverr : Obligations.UnmappedAccessIsSlverr :=
  fun _ _ _ _ _ ha =>
    ⟨fun hin => step_read hin (busRead_slverr (.inr (targetOf_unmapped ha))),
      fun hin => step_write hin (busWrite_slverr (.inr (targetOf_unmapped ha)))⟩

/-- Settles O46: the width and the alignment are tested before the address is looked up. -/
theorem misalignedAccessIsSlverr : Obligations.MisalignedAccessIsSlverr :=
  fun _ _ _ _ _ h =>
    ⟨fun hin => step_read hin (busRead_slverr (.inl (accessOk_eq_false h))),
      fun hin => step_write hin (busWrite_slverr (.inl (accessOk_eq_false h)))⟩

/-- Settles O47: the nine addresses are those of the registers whose write has no effect. -/
theorem readOnlyRegistersIgnoreWrites : Obligations.ReadOnlyRegistersIgnoreWrites := by
  intro s a d rest ha hin
  change a ∈ readOnlyRegs.map CtlReg.addr at ha
  obtain ⟨r, hr, rfl⟩ := List.mem_map.1 ha
  exact step_write_register r hin (ctlWrite_readOnly hr)

/-! ## The writes with side effects (R79) -/

section
variable {s : State} {d : Word} {rest : List Input}

theorem inten_write (hin : s.inputs = .write 0x020#12 32 d :: rest) :
    step s = .next { s.answeredOnly rest .okay 0 with inten := d.extractLsb' 0 4 } := by
  rw [step_write_register .inten hin rfl, BitVec.truncate_eq_setWidth, BitVec.setWidth_eq_extractLsb' (by decide)]
  rfl

theorem intstat_write (hin : s.inputs = .write 0x024#12 32 d :: rest) :
    step s = .next { s.answeredOnly rest .okay 0 with intstat := s.intstat &&& ~~~(d.extractLsb' 0 4) } := by
  rw [step_write_register .intstat hin rfl, BitVec.truncate_eq_setWidth, BitVec.setWidth_eq_extractLsb' (by decide)]
  rfl

theorem State.accept_of_not_fatal (hfatal : s.status.fatal = false) (w : Word) :
    s.accept w = { s with
      cmd := w
      status := { busy := true, done := false, err := false, fatal := false, tv := false, t := false }
      errinfo := 0 } := by
  simp only [State.accept, hfatal]

theorem cmd_write (hbusy : s.status.busy = false) (hfatal : s.status.fatal = false)
    (hin : s.inputs = .write 0x018#12 32 d :: rest) :
    step s = .next { s.answeredOnly rest .okay 0 with
      cmd := d
      status := { busy := true, done := false, err := false, fatal := false, tv := false, t := false }
      errinfo := 0 } := by
  rw [step_write_register .cmd hin (guardedWrite_of_idle hbusy hfatal), State.accept_of_not_fatal (s := s.setInputs rest) hfatal]
  rfl

theorem ctrl_write (hbusy : s.status.busy = false) (hfatal : s.status.fatal = false)
    (hin : s.inputs = .write 0x00C#12 32 d :: rest) :
    (d.getLsbD 0 = true → step s = .next { State.reset with inputs := rest, reply := some ⟨.okay, 0⟩ }) ∧
      (d.getLsbD 0 = false → step s = .next (s.answeredOnly rest .okay 0)) := by
  rw [step_write_register .ctrl hin (guardedWrite_of_idle hbusy hfatal), softReset]
  exact ⟨fun hbit => by rw [if_pos hbit]; rfl, fun hbit => by rw [if_neg (Bool.eq_false_iff.1 hbit)]; rfl⟩

theorem iolen_write (hbusy : s.status.busy = false) (hfatal : s.status.fatal = false)
    (hin : s.inputs = .write 0x01C#12 32 d :: rest) :
    step s = .next { s.answeredOnly rest .okay 0 with iolen := d.extractLsb' 0 9 } := by
  rw [step_write_register .iolen hin (guardedWrite_of_idle hbusy hfatal), BitVec.truncate_eq_setWidth,
    BitVec.setWidth_eq_extractLsb' (by decide)]
  rfl

theorem step_write_word {j : Nat} (hj : j < 96) (hbusy : s.status.busy = false) (hfatal : s.status.fatal = false)
    (hin : s.inputs = .write (BitVec.ofNat 12 (0x200 + 4 * j)) 32 d :: rest) :
    step s = .next ((setIobufWord (s.setInputs rest) (4 * j) d).setReply (okay 0)) :=
  step_write hin ((busWrite_buffer (accessOk_wordAddr hj) (targetOf_wordAddr hj)).trans (guardedWrite_of_idle hbusy hfatal))

theorem buffer_write {j : Nat} (hj : j < 96) (hm : memWf s.mem = true) (hbusy : s.status.busy = false)
    (hfatal : s.status.fatal = false) (hin : s.inputs = .write (BitVec.ofNat 12 (0x200 + 4 * j)) 32 d :: rest) :
    ∃ t, step s = .next t ∧ t = { s.answeredOnly rest .okay 0 with mem := t.mem } ∧
      (∀ i, i < 4 → t.byteAt (0x200 + 4 * j + i) = d.extractLsb' (8 * i) 8) ∧
      ∀ a, (∀ i, i < 4 → a ≠ 0x200 + 4 * j + i) → t.byteAt a = s.byteAt a :=
  ⟨_, step_write_word hj hbusy hfatal hin, rfl, fun _ hi => setIobufWord_byteAt_inside (s := s) d hm (by omega) hi,
    fun _ ha => setIobufWord_byteAt_outside (s := s) d ha⟩

end

/-- Settles O48: each write by its own lemma. -/
theorem writeSideEffects : Obligations.WriteSideEffects :=
  fun _ _ _ =>
    ⟨inten_write, intstat_write, fun hbusy hfatal =>
      ⟨cmd_write hbusy hfatal, ctrl_write hbusy hfatal, iolen_write hbusy hfatal,
        fun _ hj hm => buffer_write hj hm hbusy hfatal⟩⟩

/-- Settles O51: a read word is the four bytes side by side, and a written word is taken apart in the same order. -/
theorem busLanesAreLittleEndian : Obligations.BusLanesAreLittleEndian := by
  intro s j rest hj hbusy
  refine ⟨fun hin => ⟨iobufWord s (4 * j), step_read_okay hin ?_, fun i hi => iobufWord_lane s (4 * j) hi,
    iobufWord_toNat s (4 * j)⟩, fun d hfatal hm hin => ?_⟩
  · rw [busRead_buffer (accessOk_wordAddr hj) (targetOf_wordAddr hj)]
    exact if_neg (Bool.eq_false_iff.1 (blocking_of_idle hbusy))
  · obtain ⟨t, hstep, -, hbytes, -⟩ := buffer_write hj hm hbusy hfatal hin
    exact ⟨t, hstep, hbytes⟩

/-! ## Accesses while busy (R81) -/

section
variable {s : State} {rest : List Input}

theorem statusWord_toNat_of_busy (hbusy : s.status.busy = true) (hfatal : s.status.fatal = false) :
    (statusWord s.status).toNat =
      1 + 2 * s.status.done.toNat + 4 * s.status.err.toNat + 16 * s.status.tv.toNat + 32 * s.status.t.toNat := by
  have hlt := packBits_lt [s.status.busy, s.status.done, s.status.err, s.status.fatal, s.status.tv, s.status.t]
  simp only [List.length_cons, List.length_nil] at hlt
  rw [statusWord, BitVec.toNat_ofNat, Nat.mod_eq_of_lt (by omega)]
  simp only [packBits, hbusy, hfatal, Bool.toNat_true, Bool.toNat_false]
  omega

theorem reads_while_busy (hbusy : s.status.busy = true) (hfatal : s.status.fatal = false) :
    ∀ c ∈ [(0x000#12, 0x424E5045), (0x004#12, 0x00010000), (0x008#12, 0x00822110), (0x00C#12, 0),
        (0x010#12, 1 + 2 * s.status.done.toNat + 4 * s.status.err.toNat + 16 * s.status.tv.toNat + 32 * s.status.t.toNat),
        (0x014#12, s.errinfo.toNat), (0x018#12, s.cmd.toNat), (0x020#12, s.inten.toNat), (0x024#12, s.intstat.toNat)],
      s.inputs = .read c.1 32 :: rest → ∃ w : Word, step s = .next (s.answeredOnly rest .okay w) ∧ w.toNat = c.2 := by
  have hread (r : CtlReg) {n : Nat} (hr : readBlocked r = false) (hn : (ctlWord s r).toNat = n)
      (hin : s.inputs = .read r.addr 32 :: rest) :
      ∃ w : Word, step s = .next (s.answeredOnly rest .okay w) ∧ w.toNat = n :=
    ⟨_, step_read_register r (by rw [hr, Bool.and_false]) hin, hn⟩
  simp only [List.forall_mem_cons, List.not_mem_nil, false_imp_iff, implies_true, and_true]
  exact ⟨hread .id rfl rfl, hread .version rfl rfl, hread .cap rfl rfl, hread .ctrl rfl rfl,
    hread .status rfl (statusWord_toNat_of_busy hbusy hfatal),
    hread .errinfo rfl (BitVec.toNat_setWidth_of_le (by decide)), hread .cmd rfl rfl,
    hread .inten rfl (BitVec.toNat_setWidth_of_le (by decide)),
    hread .intstat rfl (BitVec.toNat_setWidth_of_le (by decide))⟩

end

/-- Settles O49: the blocked accesses, and the reads that are not blocked. -/
theorem accessesWhileBusy : Obligations.AccessesWhileBusy := by
  intro s a d rest hbusy hfatal
  refine ⟨fun ha hin => step_read hin (busRead_blocked (blocking_eq_true hbusy hfatal) ha), fun ha hin => ?_,
    reads_while_busy hbusy hfatal⟩
  obtain ⟨u, hu⟩ := busWrite_guarded ha
  exact step_write hin (hu.trans (guardedWrite_of_busy hbusy hfatal))

end Sys2Proof.Machine
end

section
/-! While fatal (`20_memory.md` R82, `60_exceptions.md` R382, R388) nothing but the interrupt registers and the host's view moves. -/

namespace Sys2Proof.Machine

/-- `t` is `s` but for `INTEN`, `INTSTAT`, which has lost bits at most, and the host's view. -/
inductive InterruptsOnly (s : State) : State → Prop
  | mk (inten intstat : BitVec 4) (inputs : List Input) (reply : Option BusReply) (hsub : intstat &&& s.intstat = intstat) :
      InterruptsOnly s { s with inten := inten, intstat := intstat, inputs := inputs, reply := reply }

theorem InterruptsOnly.refl (s : State) : InterruptsOnly s s := .mk _ _ _ _ BitVec.and_self

/-- What a step does to the pending events and the answer is the host's view. -/
theorem InterruptsOnly.answer {s u : State} {rest : List Input} (h : InterruptsOnly (s.setInputs rest) u) (r : BusReply) :
    InterruptsOnly s (u.setReply r) := by
  obtain ⟨inten, intstat, inputs, reply, hsub⟩ := h
  exact .mk inten intstat inputs (some r) hsub

section
variable {s : State}

theorem ctlWrite_of_fatal (hfatal : s.status.fatal = true) (r : CtlReg) (data : Word) :
    InterruptsOnly s (ctlWrite s r data).1 := by
  cases r with
  | ctrl | cmd | iolen =>
    rw [ctlWrite, guardedWrite_of_fatal hfatal]
    exact .refl s
  | inten => exact .mk (data.truncate 4) s.intstat s.inputs s.reply BitVec.and_self
  | intstat => exact .mk s.inten _ s.inputs s.reply (by rw [BitVec.and_comm, ← BitVec.and_assoc, BitVec.and_self])
  | id | version | cap | status | errinfo | listcnt | etag0 | etag1 | vtag => exact .refl s

theorem busWrite_of_fatal (hfatal : s.status.fatal = true) (addr : Addr) (bits : Nat) (data : Word) :
    InterruptsOnly s (busWrite s addr bits data).1 := by
  unfold busWrite
  split
  · split
    · exact .refl s
    · rw [guardedWrite_of_fatal hfatal]
      exact .refl s
    · exact ctlWrite_of_fatal hfatal _ data
  · exact .refl s

theorem applyInput_of_fatal {ev : Input} {rest : List Input} (hfatal : s.status.fatal = true)
    (hbusy : s.status.busy = false) (hev : ev ≠ .hardwareReset) :
    ∃ t, applyInput ev (s.setInputs rest) = .next t ∧ InterruptsOnly s t := by
  have hview : InterruptsOnly s (s.setInputs rest) := .mk s.inten s.intstat rest s.reply BitVec.and_self
  cases ev with
  | read addr bits =>
    have hread : (busRead (s.setInputs rest) addr bits).1 = s.setInputs rest := busRead_unchanged (blocking_of_fatal hfatal)
    refine ⟨_, rfl, .answer (rest := rest) ?_ _⟩
    rw [hread]
    exact .refl _
  | write addr bits data => exact ⟨_, rfl, (busWrite_of_fatal (s := s.setInputs rest) hfatal addr bits data).answer _⟩
  | engine => exact ⟨_, engineTurn_idle hbusy, hview⟩
  | integrityFailure => exact ⟨_, congrArg Host.Outcome.next (State.integrityFail_of_fatal (s.setInputs rest) hfatal), hview⟩
  | hardwareReset => exact absurd rfl hev

theorem step_of_fatal (hfatal : s.status.fatal = true) (hbusy : s.status.busy = false)
    (hreset : ∀ rest, s.inputs ≠ .hardwareReset :: rest) : ∃ t, step s = .next t ∧ InterruptsOnly s t := by
  cases hin : s.inputs with
  | nil => exact ⟨s, (step_nil hin).trans (engineTurn_idle hbusy), .refl s⟩
  | cons ev rest =>
    rw [step_cons hin]
    exact applyInput_of_fatal hfatal hbusy fun hev => hreset rest (hev ▸ hin)

end

/-- Settles O50: guarded writes are dropped, and of what else a step can do only the interrupt registers are left. -/
theorem fatalIsAbsorbing : Obligations.FatalIsAbsorbing := by
  intro s hfatal hbusy
  refine ⟨fun a d rest ha hin => ?_, fun rest hin => ?_, fun rest hin => step_cons hin, fun hreset => ?_⟩
  · obtain ⟨u, hu⟩ := busWrite_guarded ha
    exact step_write hin (hu.trans (guardedWrite_of_fatal hfatal))
  · exact (step_cons hin).trans (congrArg Host.Outcome.next (State.integrityFail_of_fatal (s.setInputs rest) hfatal))
  · obtain ⟨_, hstep, _, _, _, _, hsub⟩ := step_of_fatal hfatal hbusy hreset
    exact ⟨_, hstep, rfl, hsub⟩

end Sys2Proof.Machine
end

section
/-! Loads check the length first, stores leave the blocks of their operand (`20_memory.md` R77, R78, `46_point_encoding.md` R320,
R324 to R331). -/

namespace Sys2Proof.Machine

/-! ## Loads -/

section
variable {s : State} {n : Nat}

theorem loadBytes_of_ne (h : s.iolen.toNat ≠ n) : loadBytes s n = .error .invalidLength := if_pos h

/-- The error completion of a wrong length is the one R320 names. -/
theorem raised_invalidLength (s : State) : s.raised .invalidLength = s.afterRaise 0x01 1 0 :=
  raised_eq_afterRaise s .invalidLength

theorem eLoad_of_ne {α : Type} {dec : List Byte → Except Exn α} {tag : α → EVal} (rd : EIdx) (h : s.iolen.toNat ≠ n) :
    eLoad n dec tag rd s = .next (s.afterRaise 0x01 1 0) := by
  rw [eLoad, loadBytes_of_ne h, ← raised_invalidLength]
  rfl

theorem pLoad_of_ne {dec : List Byte → Except Exn G1Point} {rd : PIdx} (hrd : inP rd = true) (h : s.iolen.toNat ≠ n) :
    pLoad n dec rd s = .next (s.afterRaise 0x01 1 0) := by
  rw [pLoad, pIdx, dif_pos (of_decide_eq_true hrd), loadBytes_of_ne h, ← raised_invalidLength]
  rfl

theorem qLoad_of_ne {dec : List Byte → Except Exn G2Point} {rd : QIdx} (hrd : inQ rd = true) (h : s.iolen.toNat ≠ n) :
    qLoad n dec rd s = .next (s.afterRaise 0x01 1 0) := by
  rw [qLoad, qIdx, dif_pos (of_decide_eq_true hrd), loadBytes_of_ne h, ← raised_invalidLength]
  rfl

theorem execKLd_of_ne {rd : KIdx} (hrd : inK rd = true) (h : s.iolen.toNat ≠ 32) :
    execKLd rd s = .next (s.afterRaise 0x01 1 0) := by
  rw [execKLd, kIdx, dif_pos (of_decide_eq_true hrd), loadBytes_of_ne h, ← raised_invalidLength]
  rfl

end

/-- Settles O38: the nine loads, by the file they write. -/
theorem loadLengthIsCheckedFirst : Obligations.LoadLengthIsCheckedFirst := by
  intro i s n hwf hload hlen
  cases i with
  | fpLd rd | fp2Ld rd | fp6Ld rd | fp12Ld rd =>
    obtain rfl := Option.some.inj hload
    exact eLoad_of_ne rd hlen
  | g1Ld rd | g1Ldc rd =>
    obtain rfl := Option.some.inj hload
    exact pLoad_of_ne hwf hlen
  | g2Ld rd | g2Ldc rd =>
    obtain rfl := Option.some.inj hload
    exact qLoad_of_ne hwf hlen
  | kLd rd =>
    obtain rfl := Option.some.inj hload
    exact execKLd_of_ne hwf hlen
  | _ => cases hload

/-! ## Stores -/

theorem encFp_eq_fpBlocks (a : Fp) : encFp a = fpBlocks [a] := by simp [encFp, fpBlocks]

theorem fpBlocks_append (cs ds : List Fp) : fpBlocks (cs ++ ds) = fpBlocks cs ++ fpBlocks ds := List.flatMap_append

theorem encFp2_eq_fpBlocks (a : Fp2) : encFp2 a = fpBlocks [a.a1, a.a0] := by
  rw [encFp2, encFp_eq_fpBlocks, encFp_eq_fpBlocks, ← fpBlocks_append]
  rfl

theorem encFp6_eq_fpBlocks (a : Fp6) : encFp6 a = fpBlocks a.coords := by
  rw [encFp6, encFp2_eq_fpBlocks, encFp2_eq_fpBlocks, encFp2_eq_fpBlocks, ← fpBlocks_append, ← fpBlocks_append]
  rfl

theorem encFp12_eq_fpBlocks (a : Fp12) : encFp12 a = fpBlocks a.coords := by
  rw [encFp12, encFp6_eq_fpBlocks, encFp6_eq_fpBlocks, ← fpBlocks_append]
  rfl

/-- `StoreBytes` of at most 384 bytes to a canonical buffer, and the normal completion. -/
theorem storeBytes_completed_stored {s : State} {B : List Byte} (hm : memWf s.mem = true) (hB : B.length ≤ 384) :
    s.stored (storeBytes s B).completed B :=
  ⟨rfl, fun _ hk => storedMem_inside hm hB hk, fun _ hk hk' => storedMem_rest hm hB hk hk',
    fun _ ha => storedMem_outside hB ha⟩

/-- A store of an accepted operand with encoding `B`. -/
theorem eStore_stored {α : Type} {accepts : EVal → Option α} {enc : α → List Byte} {s : State} {ra : EIdx} {v : EVal}
    {a : α} {B : List Byte} (hm : memWf s.mem = true) (hv : s.holdsE ra v) (hne : v ≠ .empty) (ha : accepts v = some a)
    (henc : enc a = B) (hlen : (enc a).length ≤ 384) : ∃ t, eStore accepts enc ra s = .next t ∧ s.stored t B := by
  subst henc
  have hfetch : getE accepts s ra .ra = .ok a := by
    rw [getE_ok, (holdsE_iff s ra v).1 hv]
    exact ⟨hne, ha⟩
  refine ⟨(storeBytes s (enc a)).completed, ?_, storeBytes_completed_stored hm hlen⟩
  rw [eStore, hfetch]
  rfl

/-- Settles O17: each encoding is the blocks of its coordinates, and its store is `StoreBytes`. -/
theorem fieldStores : Obligations.FieldStores :=
  fun _ _ hm =>
    ⟨fun a ha => eStore_stored hm ha nofun rfl (encFp_eq_fpBlocks a) (encFp_length_le a),
      fun a ha => eStore_stored hm ha nofun rfl (encFp2_eq_fpBlocks a) (encFp2_length_le a),
      fun a ha => eStore_stored hm ha nofun rfl (encFp6_eq_fpBlocks a) (encFp6_length_le a),
      fun a ha => eStore_stored hm ha nofun rfl (encFp12_eq_fpBlocks a) (encFp12_length_le a),
      fun a ha => eStore_stored hm ha nofun rfl (encFp12_eq_fpBlocks a) (encFp12_length_le a)⟩

end Sys2Proof.Machine
end

section
/-! SUPPORT. The decoder in parts (`30_encoding.md` R101 to R109): the fields of a word as numbers, the two checks of a row, and what
`decode` answers for each outcome of them. -/

namespace Sys2Proof

/-! ## The fields of a word (R101) -/

theorem toNat_opcodeField (w : Word) : (opcodeField w).toNat = w.toNat / 2 ^ 24 := by
  simp only [opcodeField, BitVec.extractLsb'_toNat, Nat.shiftRight_eq_div_pow]
  omega

theorem toNat_rdField (w : Word) : (rdField w).toNat = w.toNat / 2 ^ 20 % 16 := by
  simp only [rdField, BitVec.extractLsb'_toNat, Nat.shiftRight_eq_div_pow, Nat.reducePow]

theorem toNat_raField (w : Word) : (raField w).toNat = w.toNat / 2 ^ 16 % 16 := by
  simp only [raField, BitVec.extractLsb'_toNat, Nat.shiftRight_eq_div_pow, Nat.reducePow]

theorem toNat_rbField (w : Word) : (rbField w).toNat = w.toNat / 2 ^ 12 % 16 := by
  simp only [rbField, BitVec.extractLsb'_toNat, Nat.shiftRight_eq_div_pow, Nat.reducePow]

theorem toNat_zeroField (w : Word) : (zeroField w).toNat = w.toNat % 2 ^ 12 := by
  simp only [zeroField, BitVec.extractLsb'_toNat, Nat.shiftRight_zero]

/-- The five fields are the whole word. -/
theorem pack_fields {w : Word} (hzero : zeroField w = 0) :
    pack (opcodeField w) (rdField w) (raField w) (rbField w) = w := by
  ext j hj
  have hlow : j < 12 → w.getLsbD j = false := fun hj12 => by
    have hbit : (zeroField w).getLsbD j = w.getLsbD j := by simp [zeroField, hj12]
    rw [← hbit, hzero]
    exact BitVec.getLsbD_zero
  rw [← BitVec.getLsbD_eq_getElem, ← BitVec.getLsbD_eq_getElem, getLsbD_pack]
  simp only [opcodeField, rdField, raField, rbField, BitVec.getLsbD_extractLsb']
  split_ifs with h12 h16 h20 h24
  · exact (hlow h12).symm
  all_goals
    rw [decide_eq_true (by omega), Bool.true_and]
    congr 1
    omega

/-! ## The checks of a row (R106, R108) -/

@[simp] theorem usedIsInRange_none (i : RegIdx) : usedIsInRange none i = true := rfl
@[simp] theorem usedIsInRange_e (i : RegIdx) : usedIsInRange (some .e) i = true := decide_eq_true i.isLt
@[simp] theorem usedIsInRange_p (i : PIdx) : usedIsInRange (some .p) i = inP i := rfl
@[simp] theorem usedIsInRange_q (i : QIdx) : usedIsInRange (some .q) i = inQ i := rfl
@[simp] theorem usedIsInRange_k (i : KIdx) : usedIsInRange (some .k) i = inK i := rfl

/-- The register fields the row's format does not use are zero. -/
def OpcodeRow.unusedZero (row : OpcodeRow) (rd ra rb : RegIdx) : Bool :=
  unusedIsZero row.rd rd && unusedIsZero row.ra ra && unusedIsZero row.rb rb

/-- The register fields the row's format uses are in range. -/
def OpcodeRow.usedInRange (row : OpcodeRow) (rd ra rb : RegIdx) : Bool :=
  usedIsInRange row.rd rd && usedIsInRange row.ra ra && usedIsInRange row.rb rb

/-- No must-be-zero bit of the word is set. -/
def OpcodeRow.zerosHold (row : OpcodeRow) (w : Word) : Bool :=
  zeroField w == 0 && row.unusedZero (rdField w) (raField w) (rbField w)

/-- Every register index of the word is below its limit. -/
def OpcodeRow.indicesHold (row : OpcodeRow) (w : Word) : Bool := row.usedInRange (rdField w) (raField w) (rbField w)

theorem decodeRow_eq (row : OpcodeRow) (w : Word) :
    decodeRow row w =
      if row.zerosHold w = false then .error .nonZeroField
      else if row.indicesHold w = false then .error .indexOutOfRange
      else .ok (row.build (rdField w) (raField w) (rbField w)) := by
  simp only [decodeRow, OpcodeRow.zerosHold, OpcodeRow.indicesHold, OpcodeRow.unusedZero, OpcodeRow.usedInRange,
    Bool.not_eq_true', Bool.and_assoc]

section
variable {row : OpcodeRow} {w : Word}

theorem decodeRow_ok {i : Instr} :
    decodeRow row w = .ok i ↔
      row.zerosHold w = true ∧ row.indicesHold w = true ∧ row.build (rdField w) (raField w) (rbField w) = i := by
  rw [decodeRow_eq]
  cases row.zerosHold w <;> cases row.indicesHold w <;> simp

theorem decodeRow_nonZeroField : decodeRow row w = .error .nonZeroField ↔ row.zerosHold w = false := by
  rw [decodeRow_eq]
  cases row.zerosHold w <;> cases row.indicesHold w <;> simp

theorem decodeRow_indexOutOfRange :
    decodeRow row w = .error .indexOutOfRange ↔ row.zerosHold w = true ∧ row.indicesHold w = false := by
  rw [decodeRow_eq]
  cases row.zerosHold w <;> cases row.indicesHold w <;> simp

theorem decodeRow_ne_reservedOpcode : decodeRow row w ≠ .error .reservedOpcode := by
  rw [decodeRow_eq]
  cases row.zerosHold w <;> cases row.indicesHold w <;> simp

theorem decode_of_row (h : findRow (opcodeField w).toNat = some row) : decode w = decodeRow row w := by
  simp only [decode, h]

theorem decode_of_no_row (h : findRow (opcodeField w).toNat = none) : decode w = .error .reservedOpcode := by
  simp only [decode, h]

theorem decode_reservedOpcode : decode w = .error .reservedOpcode ↔ findRow (opcodeField w).toNat = none := by
  refine ⟨fun h => ?_, decode_of_no_row⟩
  cases hrow : findRow (opcodeField w).toNat with
  | none => rfl
  | some row => exact absurd (decode_of_row hrow ▸ h) decodeRow_ne_reservedOpcode

theorem decode_ok {i : Instr} (h : decode w = .ok i) :
    ∃ row, findRow (opcodeField w).toNat = some row ∧ decodeRow row w = .ok i := by
  cases hrow : findRow (opcodeField w).toNat with
  | none => cases decode_of_no_row hrow ▸ h
  | some row => exact ⟨row, rfl, decode_of_row hrow ▸ h⟩

theorem findRow_some {opcode : Nat} (h : findRow opcode = some row) : row ∈ opcodeTable ∧ row.opcode = opcode :=
  ⟨List.mem_of_find?_eq_some h, eq_of_beq (List.find?_some (p := fun row : OpcodeRow => row.opcode == opcode) h)⟩

end

end Sys2Proof
end

section
/-! `encode` and `decode` are inverse on the well-formed commands (`30_encoding.md` R100 to R109). -/

namespace Sys2Proof

/-! ## From a command to its word -/

/-- A word packed from an assigned opcode and fields that pass the checks of its row decodes to the row's command. -/
theorem decode_of_packed {i : Instr} {o : BitVec 8} {rd ra rb : RegIdx} {row : OpcodeRow}
    (hword : encode i = pack o rd ra rb) (hrow : findRow o.toNat = some row) (hbuild : row.build rd ra rb = i)
    (hunused : row.unusedZero rd ra rb = true) (hrd : usedIsInRange row.rd rd = true)
    (hra : usedIsInRange row.ra ra = true) (hrb : usedIsInRange row.rb rb = true) : decode (encode i) = .ok i := by
  have hfind : findRow (opcodeField (pack o rd ra rb)).toNat = some row := by rw [opcodeField_pack, hrow]
  rw [hword, decode_of_row hfind, decodeRow_ok, OpcodeRow.zerosHold, OpcodeRow.indicesHold, OpcodeRow.usedInRange,
    zeroField_pack, rdField_pack, raField_pack, rbField_pack, hunused, hrd, hra, hrb]
  exact ⟨rfl, rfl, hbuild⟩

/-- Settles O1: the commands by the register classes of their fields; a field of class `E` is always in range, and the limits
of the others are what `wellFormed` says. -/
theorem decodeOfEncodeIsTheCommand : Obligations.DecodeOfEncodeIsTheCommand := by
  intro i hwf
  cases i with
  | nop | zeroize | pcClr | pcRun => exact decode_of_packed rfl rfl rfl rfl rfl rfl rfl
  | fpZero rd | fpOne rd | fpLd rd | fp2Zero rd | fp2One rd | fp2Ld rd | fp6Zero rd | fp6One rd | fp6Ld rd
  | fp12Zero rd | fp12One rd | fp12Ld rd | gtOne rd | mloOne rd =>
    exact decode_of_packed rfl rfl rfl rfl (usedIsInRange_e rd) rfl rfl
  | fpSt ra | fp2St ra | fp6St ra | fp12St ra | gtSt ra | gtIsOne ra =>
    exact decode_of_packed rfl rfl rfl rfl rfl (usedIsInRange_e ra) rfl
  | eMov rd ra | fpNeg rd ra | fpSqr rd ra | fpInv rd ra | fp2Neg rd ra | fp2Sqr rd ra | fp2Inv rd ra | fp6Neg rd ra
  | fp6Sqr rd ra | fp6Inv rd ra | fp12Neg rd ra | fp12Sqr rd ra | fp12Inv rd ra | gtInv rd ra | gtToFp12 rd ra
  | finalExp rd ra =>
    exact decode_of_packed rfl rfl rfl rfl (usedIsInRange_e rd) (usedIsInRange_e ra) rfl
  | fpEq ra rb | fp2Eq ra rb | fp6Eq ra rb | fp12Eq ra rb | gtEq ra rb =>
    exact decode_of_packed rfl rfl rfl rfl rfl (usedIsInRange_e ra) (usedIsInRange_e rb)
  | fpAdd rd ra rb | fpSub rd ra rb | fpMul rd ra rb | fp2Add rd ra rb | fp2Sub rd ra rb | fp2Mul rd ra rb
  | fp6Add rd ra rb | fp6Sub rd ra rb | fp6Mul rd ra rb | fp12Add rd ra rb | fp12Sub rd ra rb | fp12Mul rd ra rb
  | gtMul rd ra rb | mloMul rd ra rb =>
    exact decode_of_packed rfl rfl rfl rfl (usedIsInRange_e rd) (usedIsInRange_e ra) (usedIsInRange_e rb)
  | gtExp rd ra rb => exact decode_of_packed rfl rfl rfl rfl (usedIsInRange_e rd) (usedIsInRange_e ra) hwf
  | miller rd ra rb | pair rd ra rb =>
    obtain ⟨ha, hb⟩ := Bool.and_eq_true_iff.1 hwf
    exact decode_of_packed rfl rfl rfl rfl (usedIsInRange_e rd) ha hb
  | g1SetId rd | g1Gen rd | g1Ld rd | g1Ldc rd | g2SetId rd | g2Gen rd | g2Ld rd | g2Ldc rd | kLd rd | kClr rd =>
    exact decode_of_packed rfl rfl rfl rfl hwf rfl rfl
  | g1IsOnCurve ra | g1IsId ra | g1ChkSub ra | g1St ra | g1Stc ra | g2IsOnCurve ra | g2IsId ra | g2ChkSub ra | g2St ra
  | g2Stc ra | pcPush1 ra | pcPush2 ra => exact decode_of_packed rfl rfl rfl rfl rfl hwf rfl
  | g1Dbl rd ra | g1Neg rd ra | g1Mov rd ra | g2Dbl rd ra | g2Neg rd ra | g2Mov rd ra =>
    obtain ⟨hd, ha⟩ := Bool.and_eq_true_iff.1 hwf
    exact decode_of_packed rfl rfl rfl rfl hd ha rfl
  | g1Eq ra rb | g2Eq ra rb =>
    obtain ⟨ha, hb⟩ := Bool.and_eq_true_iff.1 hwf
    exact decode_of_packed rfl rfl rfl rfl rfl ha hb
  | g1Add rd ra rb | g2Add rd ra rb | g1Smul rd ra rb | g2Smul rd ra rb =>
    obtain ⟨hda, hb⟩ := Bool.and_eq_true_iff.1 hwf
    obtain ⟨hd, ha⟩ := Bool.and_eq_true_iff.1 hda
    exact decode_of_packed rfl rfl rfl rfl hd ha hb

/-- Settles O4: each word is the encoding of its command; in `0x00000001` a must-be-zero bit is set. -/
theorem exampleWordsDecode : Obligations.ExampleWordsDecode :=
  ⟨decodeOfEncodeIsTheCommand (.fpAdd 3 1 2) rfl, decodeOfEncodeIsTheCommand (.g1Eq 1 2) rfl,
    decodeOfEncodeIsTheCommand (.g1Smul 2 0 1) rfl, decodeOfEncodeIsTheCommand (.miller 4 1 2) rfl,
    decodeOfEncodeIsTheCommand .pcRun rfl, decodeOfEncodeIsTheCommand (.g2St 5) rfl,
    decodeOfEncodeIsTheCommand (.eMov 5 4) rfl, decodeRow_nonZeroField.2 rfl⟩

/-! ## From a word to its command -/

/-- A register field as `encode` writes it: 0 where the format does not use it. -/
def usedField (c : Option RegClass) (i : RegIdx) : RegIdx :=
  match c with
  | none => 0
  | some _ => i

theorem usedField_of_unusedIsZero {c : Option RegClass} {i : RegIdx} (h : unusedIsZero c i = true) : usedField c i = i := by
  cases c with
  | none => exact (eq_of_beq h).symm
  | some _ => rfl

/-- The encoder agrees with the opcode map. -/
theorem encode_build (rd ra rb : RegIdx) : ∀ row ∈ opcodeTable,
    encode (row.build rd ra rb) =
      pack (BitVec.ofNat 8 row.opcode) (usedField row.rd rd) (usedField row.ra ra) (usedField row.rb rb) := by
  rw [← List.forall_iff_forall_mem]
  and_intros <;> rfl

/-- The limits of `wellFormed` are those of the opcode map. -/
theorem wellFormed_build (rd ra rb : RegIdx) : ∀ row ∈ opcodeTable,
    (row.build rd ra rb).wellFormed = row.usedInRange rd ra rb := by
  rw [← List.forall_iff_forall_mem]
  and_intros <;> simp [Instr.wellFormed, OpcodeRow.usedInRange]

/-- Settles O2: the row of the word's opcode gives back its fields, since the unused ones are 0. -/
theorem decodedWordIsTheEncoding : Obligations.DecodedWordIsTheEncoding := by
  intro w i h
  obtain ⟨row, hfind, hdecode⟩ := decode_ok h
  obtain ⟨hmem, hopcode⟩ := findRow_some hfind
  obtain ⟨hzeros, hindices, rfl⟩ := decodeRow_ok.1 hdecode
  simp only [OpcodeRow.zerosHold, OpcodeRow.unusedZero, Bool.and_eq_true] at hzeros
  obtain ⟨hzero, ⟨hrd, hra⟩, hrb⟩ := hzeros
  refine ⟨?_, (wellFormed_build _ _ _ _ hmem).trans hindices⟩
  rw [encode_build _ _ _ _ hmem, hopcode, usedField_of_unusedIsZero hrd, usedField_of_unusedIsZero hra,
    usedField_of_unusedIsZero hrb, BitVec.ofNat_toNat, BitVec.setWidth_eq]
  exact pack_fields (eq_of_beq hzero)

end Sys2Proof
end

section
/-! Which words are no command (`30_encoding.md` R105 to R108): the opcode map by format and the reserved ranges are compared with
`opcodeTable` opcode by opcode; the two checks of a row are read on the word as a number. -/

namespace Sys2Proof

/-! ## The checks of a row on the word as a number -/

theorem unusedIsZero_eq_false {c : Option RegClass} {i : RegIdx} :
    unusedIsZero c i = false ↔ c.map RegClass.limit = none ∧ i.toNat ≠ 0 := by
  cases c with
  | none => simp [unusedIsZero, ← BitVec.toNat_inj]
  | some c => simp [unusedIsZero]

theorem usedIsInRange_eq_false {c : Option RegClass} {i : RegIdx} :
    usedIsInRange c i = false ↔ ∃ n, c.map RegClass.limit = some n ∧ n ≤ i.toNat := by
  cases c with
  | none => simp
  | some c => simp [usedIsInRange]

/-- The row has the format's limits, field by field. -/
def OpcodeRow.HasFormat (row : OpcodeRow) (f : Machine.OpcodeFormat) : Prop :=
  row.rd.map RegClass.limit = f.rd ∧ row.ra.map RegClass.limit = f.ra ∧ row.rb.map RegClass.limit = f.rb

section
variable {row : OpcodeRow} {f : Machine.OpcodeFormat}

theorem OpcodeRow.HasFormat.zerosHold_eq_false (h : row.HasFormat f) (w : Word) : row.zerosHold w = false ↔ f.nonZero w := by
  obtain ⟨hrd, hra, hrb⟩ := h
  have hzero : (zeroField w == 0) = false ↔ w.toNat % 2 ^ 12 ≠ 0 := by
    rw [← toNat_zeroField, beq_eq_false_iff_ne, ne_eq, ← BitVec.toNat_inj]
    rfl
  simp only [OpcodeRow.zerosHold, OpcodeRow.unusedZero, Bool.and_eq_false_iff, hzero, unusedIsZero_eq_false, hrd, hra, hrb,
    toNat_rdField, toNat_raField, toNat_rbField, Machine.OpcodeFormat.nonZero, or_assoc]

theorem OpcodeRow.HasFormat.indicesHold_eq_false (h : row.HasFormat f) (w : Word) :
    row.indicesHold w = false ↔ f.outOfRange w := by
  obtain ⟨hrd, hra, hrb⟩ := h
  simp only [OpcodeRow.indicesHold, OpcodeRow.usedInRange, Bool.and_eq_false_iff, usedIsInRange_eq_false, hrd, hra, hrb,
    toNat_rdField, toNat_raField, toNat_rbField, Machine.OpcodeFormat.outOfRange, or_assoc]

end

/-! ## The opcode map by format, and the reserved ranges -/

/-- The reserved ranges of R107, first and last opcode. -/
def reservedRanges : List (Nat × Nat) :=
  [(0x03, 0x0F), (0x1B, 0x1F), (0x2B, 0x2F), (0x3B, 0x3F), (0x4B, 0x4F), (0x58, 0x5F), (0x6F, 0x6F), (0x7F, 0x7F), (0x82, 0x8F),
    (0x95, 0x9F), (0xA4, 0xFF)]

theorem findRow_isNone_iff :
    ∀ o < 256, (findRow o).isNone = true ↔ ∃ r ∈ reservedRanges, r.1 ≤ o ∧ o ≤ r.2 := by decide +kernel

theorem reserved_or_in_format :
    ∀ o < 256, (findRow o).isNone = true ∨ ∃ f ∈ Machine.opcodeFormats, o ∈ f.opcodes := by decide +kernel

/-- The limits of the row of an opcode. -/
def rowLimits (opcode : Nat) : Option (Option Nat × Option Nat × Option Nat) :=
  (findRow opcode).map fun row => (row.rd.map RegClass.limit, row.ra.map RegClass.limit, row.rb.map RegClass.limit)

theorem rowLimits_of_format :
    ∀ f ∈ Machine.opcodeFormats, ∀ o ∈ f.opcodes, rowLimits o = some (f.rd, f.ra, f.rb) := by decide +kernel

theorem hasFormat_of_mem {f : Machine.OpcodeFormat} (hf : f ∈ Machine.opcodeFormats) {o : Nat} (ho : o ∈ f.opcodes) :
    ∃ row, findRow o = some row ∧ row.HasFormat f := by
  obtain ⟨row, hrow, hlimits⟩ := Option.map_eq_some_iff.1 (rowLimits_of_format f hf o ho)
  simp only [Prod.mk.injEq] at hlimits
  exact ⟨row, hrow, hlimits⟩

/-! ## The three causes -/

theorem opcode_lt (w : Word) : w.toNat / 2 ^ 24 < 256 := by omega

theorem decode_reserved_iff_isNone (w : Word) :
    decode w = .error .reservedOpcode ↔ (findRow (w.toNat / 2 ^ 24)).isNone = true := by
  rw [decode_reservedOpcode, toNat_opcodeField, Option.isNone_iff_eq_none]

/-- Settles O3: the reserved opcodes are those without a row, and a row's checks are those of its format. -/
theorem illegalWordsAreRefusedByCause : Obligations.IllegalWordsAreRefusedByCause := by
  intro w
  refine ⟨(decode_reserved_iff_isNone w).trans (findRow_isNone_iff _ (opcode_lt w)), ?_, fun f hf ho => ?_⟩
  · rw [decode_reserved_iff_isNone]
    exact reserved_or_in_format _ (opcode_lt w)
  · obtain ⟨row, hrow, hformat⟩ := hasFormat_of_mem hf ho
    rw [← toNat_opcodeField] at hrow
    rw [decode_of_row hrow, decodeRow_nonZeroField, decodeRow_indexOutOfRange, ← Bool.not_eq_false,
      hformat.zerosHold_eq_false, hformat.indicesHold_eq_false]
    exact ⟨Iff.rfl, Iff.rfl⟩

end Sys2Proof
end

section
/-! An ill-formed command raises before it looks at anything else (`30_encoding.md` R103, R108, `60_exceptions.md` R373), and every
command completes (R109). -/

namespace Sys2Proof.Machine

/-! ## The first index out of range -/

section
variable {α : Type}

/-- The index of a point or scalar register is refused, or it passes and what follows refuses. -/
theorem pIdx_bind_outOfRange {i : PIdx} {f : Fin Config.NP → Except Exn α}
    (h : inP i = true → ∀ d, f d = .error .indexOutOfRange) : (pIdx i >>= f) = .error .indexOutOfRange := by
  cases hi : inP i with
  | false => exact bind_error.2 (.inl (pIdx_error.2 ⟨not_lt.1 (of_decide_eq_false hi), rfl⟩))
  | true => exact bind_error.2 (.inr ⟨⟨i.toNat, of_decide_eq_true hi⟩, pIdx_ok.2 rfl, h hi _⟩)

theorem qIdx_bind_outOfRange {i : QIdx} {f : Fin Config.NQ → Except Exn α}
    (h : inQ i = true → ∀ d, f d = .error .indexOutOfRange) : (qIdx i >>= f) = .error .indexOutOfRange := by
  cases hi : inQ i with
  | false => exact bind_error.2 (.inl (qIdx_error.2 ⟨not_lt.1 (of_decide_eq_false hi), rfl⟩))
  | true => exact bind_error.2 (.inr ⟨⟨i.toNat, of_decide_eq_true hi⟩, qIdx_ok.2 rfl, h hi _⟩)

theorem kIdx_bind_outOfRange {i : KIdx} {f : Fin Config.NK → Except Exn α}
    (h : inK i = true → ∀ d, f d = .error .indexOutOfRange) : (kIdx i >>= f) = .error .indexOutOfRange := by
  cases hi : inK i with
  | false => exact bind_error.2 (.inl (kIdx_error.2 ⟨not_lt.1 (of_decide_eq_false hi), rfl⟩))
  | true => exact bind_error.2 (.inr ⟨⟨i.toNat, of_decide_eq_true hi⟩, kIdx_ok.2 rfl, h hi _⟩)

end

theorem finish_outOfRange (s : State) {e : Except Exn State} (h : e = .error .indexOutOfRange) :
    s.finish e = .next (s.afterRaise 0x10 3 0) := by
  rw [h, State.finish_error, raised_eq_afterRaise]
  rfl

/-- Settles O36: the commands by the register classes of their fields. Each tests all its indices first, in the order of the
fields; were all in range, the command would be well formed. -/
theorem indexOutOfRangeRaises : Obligations.IndexOutOfRangeRaises := by
  intro i s hwf
  cases i with
  | g1IsOnCurve _ | g1IsId _ | g1ChkSub _ | g1SetId _ | g1Gen _ | g1Ld _ | g1St _ | g1Ldc _ | g1Stc _ | pcPush1 _ =>
    exact finish_outOfRange s (pIdx_bind_outOfRange fun h => by simp [Instr.wellFormed, h] at hwf)
  | g1Dbl _ _ | g1Neg _ _ | g1Eq _ _ | g1Mov _ _ =>
    exact finish_outOfRange s (pIdx_bind_outOfRange fun h1 _ => pIdx_bind_outOfRange fun h2 => by
      simp [Instr.wellFormed, h1, h2] at hwf)
  | g1Add _ _ _ =>
    exact finish_outOfRange s (pIdx_bind_outOfRange fun h1 _ => pIdx_bind_outOfRange fun h2 _ =>
      pIdx_bind_outOfRange fun h3 => by simp [Instr.wellFormed, h1, h2, h3] at hwf)
  | g1Smul _ _ _ =>
    exact finish_outOfRange s (pIdx_bind_outOfRange fun h1 _ => pIdx_bind_outOfRange fun h2 _ =>
      kIdx_bind_outOfRange fun h3 => by simp [Instr.wellFormed, h1, h2, h3] at hwf)
  | g2IsOnCurve _ | g2IsId _ | g2ChkSub _ | g2SetId _ | g2Gen _ | g2Ld _ | g2St _ | g2Ldc _ | g2Stc _ | pcPush2 _ =>
    exact finish_outOfRange s (qIdx_bind_outOfRange fun h => by simp [Instr.wellFormed, h] at hwf)
  | g2Dbl _ _ | g2Neg _ _ | g2Eq _ _ | g2Mov _ _ =>
    exact finish_outOfRange s (qIdx_bind_outOfRange fun h1 _ => qIdx_bind_outOfRange fun h2 => by
      simp [Instr.wellFormed, h1, h2] at hwf)
  | g2Add _ _ _ =>
    exact finish_outOfRange s (qIdx_bind_outOfRange fun h1 _ => qIdx_bind_outOfRange fun h2 _ =>
      qIdx_bind_outOfRange fun h3 => by simp [Instr.wellFormed, h1, h2, h3] at hwf)
  | g2Smul _ _ _ =>
    exact finish_outOfRange s (qIdx_bind_outOfRange fun h1 _ => qIdx_bind_outOfRange fun h2 _ =>
      kIdx_bind_outOfRange fun h3 => by simp [Instr.wellFormed, h1, h2, h3] at hwf)
  | miller _ _ _ | pair _ _ _ =>
    exact finish_outOfRange s (pIdx_bind_outOfRange fun h1 _ => qIdx_bind_outOfRange fun h2 => by
      simp [Instr.wellFormed, h1, h2] at hwf)
  | kLd _ | kClr _ | gtExp _ _ _ =>
    exact finish_outOfRange s (kIdx_bind_outOfRange fun h => by simp [Instr.wellFormed, h] at hwf)
  | _ => cases hwf

/-! ## Completion -/

/-- The commands without a check complete outright, the others are an effect and the end it leads to. -/
theorem exec_isNext (i : Instr) (s : State) : ∃ t, exec i s = .next t := by
  cases i with
  | nop | zeroize | pcClr | fpZero _ | fpOne _ | fp2Zero _ | fp2One _ | fp6Zero _ | fp6One _ | fp12Zero _ | fp12One _
  | gtOne _ | mloOne _ => exact ⟨_, rfl⟩
  | _ => exact State.finish_isNext s _

theorem getLsbD_or_intDone (x : BitVec 4) : (x ||| intDone).getLsbD 0 = true := by simp [intDone]

/-- Normal or by a raise, a command leaves the engine idle, with `DONE` and `INTSTAT.DONE` set. -/
theorem CommandEnds.completes {f : CommandFacts} {s t : State} (h : CommandEnds f s t) :
    t.status.busy = false ∧ t.status.done = true ∧ t.intstat.getLsbD 0 = true := by
  cases h with
  | raised x =>
    refine ⟨rfl, rfl, ?_⟩
    rw [State.raised_intstat, BitVec.getLsbD_or, getLsbD_or_intDone, Bool.true_or]
  | _ => exact ⟨rfl, rfl, getLsbD_or_intDone _⟩

/-- Settles O41: every command has an end, and each end completes. -/
theorem everyCommandCompletes : Obligations.EveryCommandCompletes := by
  intro i s
  obtain ⟨t, ht⟩ := exec_isNext i s
  have hends := exec_ends i ht
  obtain ⟨hbusy, hdone, hint⟩ := hends.completes
  obtain ⟨-, -, hinputs, -⟩ := hends.control
  exact ⟨t, ht, hbusy, hdone, hends.fatal_eq, hint, hinputs⟩

/-! ## The step of the busy engine -/

/-- Settles O5: with no event pending, or with the engine's turn as the next one, a step is the engine's turn. -/
theorem stepRunsTheCommandInCmd : Obligations.StepRunsTheCommandInCmd := by
  refine ⟨fun s i hin hbusy hdec => ?_, fun s rest i hin hbusy hdec => ?_, fun s e hin hbusy hdec => ?_, fun s hin hidle => ?_⟩
  · rw [step_nil hin, engineTurn_busy hbusy, completeCommand_ok hdec]
  · rw [step_cons hin]
    exact (engineTurn_busy (s := s.setInputs rest) hbusy).trans (completeCommand_ok hdec)
  · rw [step_nil hin, engineTurn_busy hbusy, completeCommand_error hdec, raised_eq_afterRaise]
    cases e <;> rfl
  · rw [step_nil hin, engineTurn_idle hidle]

end Sys2Proof.Machine
end

section
/-! SUPPORT. The shared operations on operands that fit: with the operands of its tag a command over the `E` file completes with its
effect, a constant is written in every state, and a point constant wherever its index exists (`40_fp_tower.md` R129, R130). -/

namespace Sys2Proof.Machine

/-- The commands that read with `accepts` take exactly the values `tag` makes, and none of these is EMPTY. -/
def Accepts {α : Type} (accepts : EVal → Option α) (tag : α → EVal) : Prop :=
  ∀ a, tag a ≠ .empty ∧ accepts (tag a) = some a

theorem accepts_fp : Accepts EVal.asFp .fp := fun _ => ⟨nofun, rfl⟩

theorem accepts_fp2 : Accepts EVal.asFp2 .fp2 := fun _ => ⟨nofun, rfl⟩

theorem accepts_fp6 : Accepts EVal.asFp6 .fp6 := fun _ => ⟨nofun, rfl⟩

theorem accepts_fp12 : Accepts EVal.asFp12 .fp12 := fun _ => ⟨nofun, rfl⟩

theorem accepts_gt : Accepts EVal.asGt .gt := fun _ => ⟨nofun, rfl⟩

section
variable {α : Type} {accepts : EVal → Option α} {tag : α → EVal} {s : State} {rd ra rb : EIdx} {a b : α}

theorem getE_of_holds (h : Accepts accepts tag) (w : Operand) (ha : s.holdsE ra (tag a)) : getE accepts s ra w = .ok a := by
  rw [getE_ok, (holdsE_iff s ra _).1 ha]
  exact h a

theorem eBinary_of_holds (h : Accepts accepts tag) (f : α → α → α) (rd : EIdx) (ha : s.holdsE ra (tag a))
    (hb : s.holdsE rb (tag b)) : eBinary accepts tag f rd ra rb s = .next (s.afterE rd (tag (f a b))) := by
  rw [eBinary, getE_of_holds h _ ha, getE_of_holds h _ hb, ← completed_setE]
  rfl

theorem eUnary_of_holds (h : Accepts accepts tag) (f : α → α) (rd : EIdx) (ha : s.holdsE ra (tag a)) :
    eUnary accepts tag f rd ra s = .next (s.afterE rd (tag (f a))) := by
  rw [eUnary, getE_of_holds h _ ha, ← completed_setE]
  rfl

theorem eTest2_of_holds (h : Accepts accepts tag) (test : α → α → Bool) (ha : s.holdsE ra (tag a))
    (hb : s.holdsE rb (tag b)) : eTest2 accepts test ra rb s = .next (s.afterT (test a b)) := by
  rw [eTest2, getE_of_holds h _ ha, getE_of_holds h _ hb, ← completed_setT]
  rfl

theorem eTest_of_holds (h : Accepts accepts tag) (test : α → Bool) (ha : s.holdsE ra (tag a)) :
    eTest accepts test ra s = .next (s.afterT (test a)) := by
  rw [eTest, getE_of_holds h _ ha, ← completed_setT]
  rfl

/-- A command with the check of R125 completes on an operand other than zero. -/
theorem eNonZero_of_ne [DecidableEq α] {zero : α} (h : Accepts accepts tag) (f : α → α) (rd : EIdx)
    (ha : s.holdsE ra (tag a)) (hne : a ≠ zero) :
    eNonZero accepts tag zero f rd ra s = .next (s.afterE rd (tag (f a))) := by
  rw [eNonZero, getE_of_holds h _ ha, ← completed_setE]
  exact congrArg s.finish (if_neg hne)

/-- A command with the check of R125 raises on zero. -/
theorem eNonZero_of_zero [DecidableEq α] {zero : α} (h : Accepts accepts tag) (f : α → α) (rd : EIdx)
    (ha : s.holdsE ra (tag zero)) :
    eNonZero accepts tag zero f rd ra s = .next (s.afterRaise 0x05 0 0) := by
  have hraised : s.raised .divisionByZero = s.afterRaise 0x05 0 0 := raised_eq_afterRaise s .divisionByZero
  rw [eNonZero, getE_of_holds h _ ha, ← hraised]
  exact congrArg s.finish (if_pos rfl)

/-- Both ends of an inversion command, for a function that inverts everything but zero. -/
theorem eNonZero_inverts [DecidableEq α] {zero one : α} {mul : α → α → α} {inv : α → α} (h : Accepts accepts tag)
    (hinv : ∀ a, a ≠ zero → mul a (inv a) = one) (rd : EIdx) (ha : s.holdsE ra (tag a)) :
    (a ≠ zero → ∃ c, mul a c = one ∧ eNonZero accepts tag zero inv rd ra s = .next (s.afterE rd (tag c))) ∧
    (a = zero → eNonZero accepts tag zero inv rd ra s = .next (s.afterRaise 0x05 0 0)) := by
  refine ⟨fun hne => ⟨inv a, hinv a hne, eNonZero_of_ne h inv rd ha hne⟩, ?_⟩
  rintro rfl
  exact eNonZero_of_zero h inv rd ha

end

theorem eConst_eq (v : EVal) (rd : EIdx) (s : State) : eConst v rd s = .next (s.afterE rd v) := by
  rw [eConst, State.finish_ok, completed_setE]

theorem pConst_of_lt (A : G1Point) {rd : PIdx} (h : rd.toNat < 8) (s : State) : pConst A rd s = .next (s.afterP rd A) := by
  have hrd : pIdx rd = .ok ⟨rd.toNat, h⟩ := pIdx_ok.2 rfl
  rw [pConst, hrd, ← completed_setP s rd ⟨rd.toNat, h⟩ rfl A]
  rfl

theorem qConst_of_lt (A : G2Point) {rd : QIdx} (h : rd.toNat < 8) (s : State) : qConst A rd s = .next (s.afterQ rd A) := by
  have hrd : qIdx rd = .ok ⟨rd.toNat, h⟩ := qIdx_ok.2 rfl
  rw [qConst, hrd, ← completed_setQ s rd ⟨rd.toNat, h⟩ rfl A]
  rfl

end Sys2Proof.Machine
end

section
/-! SUPPORT. The operations of the tower on coordinates, as integers modulo `p` (`40_fp_tower.md` R120, R122); the inverses of R120 to R124
by their equation; equality of elements as equality of coordinates (R128). -/

namespace Sys2Proof.Machine

/-! ## Integers modulo `p` -/

theorem fpZero_val : fpZero.val = 0 := rfl

theorem fpOne_val : fpOne.val = 1 := by decide

theorem fpAdd_val (a b : Fp) : (fpAdd a b).val = (a.val + b.val) % Config.p := rfl

theorem fpMul_val (a b : Fp) : (fpMul a b).val = (a.val * b.val) % Config.p := rfl

theorem fpSub_val (a b : Fp) : ((fpSub a b).val : Int) = ((a.val : Int) - b.val) % Config.p := by
  calc ((fpSub a b).val : Int) = ((a.val + (Config.p - b.val) : Nat) : Int) % Config.p := rfl
    _ = ((a.val : Int) - b.val + Config.p) % Config.p := by
      have hb := b.isLt
      congr 1
      omega
    _ = ((a.val : Int) - b.val) % Config.p := Int.add_emod_right _ _

theorem fpNeg_val (a : Fp) : ((fpNeg a).val : Int) = (-(a.val : Int)) % Config.p := by
  calc ((fpNeg a).val : Int) = ((Config.p - a.val : Nat) : Int) % Config.p := rfl
    _ = (-(a.val : Int) + Config.p) % Config.p := by rw [Nat.cast_sub a.isLt.le, neg_add_eq_sub]
    _ = (-(a.val : Int)) % Config.p := Int.add_emod_right _ _

/-- The real coordinate of a product in Fp2. -/
theorem fp2Mul_a0_val (a b : Fp2) :
    ((fp2Mul a b).a0.val : Int) = ((a.a0.val : Int) * b.a0.val - a.a1.val * b.a1.val) % Config.p := by
  simp only [fp2Mul, fpSub_val, fpMul_val, Int.natCast_emod, Nat.cast_mul, ← Int.sub_emod]

/-- The coordinate of `u` of a product in Fp2. -/
theorem fp2Mul_a1_val (a b : Fp2) :
    (fp2Mul a b).a1.val = (a.a0.val * b.a1.val + a.a1.val * b.a0.val) % Config.p := by
  simp only [fp2Mul, fpAdd_val, fpMul_val, ← Nat.add_mod]

/-! ## Inverses -/

theorem fpMul_inv (a : Fp) (ha : a ≠ fpZero) : fpMul a (fpInv a) = fpOne :=
  toZp_injective (by rw [toZp_mul, toZp_inv ha, toZp_one])

theorem fp2Mul_inv (a : Fp2) (ha : a ≠ fp2Zero) : fp2Mul a (fp2Inv a) = fp2One :=
  toK2_injective (by rw [toK2_mul, toK2_inv ha, toK2_one])

theorem fp6Mul_inv (a : Fp6) (ha : a ≠ fp6Zero) : fp6Mul a (fp6Inv a) = fp6One :=
  toK6_injective (by rw [toK6_mul, toK6_inv ha, toK6_one])

theorem fp12Mul_inv (a : Fp12) (ha : a ≠ fp12Zero) : fp12Mul a (fp12Inv a) = fp12One :=
  toK12_injective (by rw [toK12_mul, toK12_inv ha, toK12_one])

/-- `MulV` is the product with `v` (R123). -/
theorem mulV_eq_mul (a : Fp6) : mulV a = fp6Mul a ⟨fp2Zero, fp2One, fp2Zero⟩ :=
  toK6_injective (by simp [mul_comm])

/-! ## Equality by coordinates -/

theorem fp_eq_zero_iff (a : Fp) : a = fpZero ↔ a.val = 0 := Fin.ext_iff

theorem fp2_ext_iff (a b : Fp2) : a = b ↔ a.a0 = b.a0 ∧ a.a1 = b.a1 := by rw [Fp2.mk.injEq]

theorem fp2_eq_zero_iff (a : Fp2) : a = fp2Zero ↔ a.a0.val = 0 ∧ a.a1.val = 0 := by
  rw [fp2_ext_iff, Fin.ext_iff, Fin.ext_iff]
  rfl

theorem Fp6.coords_inj (a b : Fp6) : a.coords = b.coords ↔ a = b := by
  cases a
  cases b
  simp only [Fp6.coords, Fp6.mk.injEq, fp2_ext_iff, List.cons.injEq]
  tauto

theorem Fp12.coords_inj (a b : Fp12) : a.coords = b.coords ↔ a = b := by
  have hlen : a.x.coords.length = b.x.coords.length := rfl
  cases a
  cases b
  rw [Fp12.coords, Fp12.coords, List.append_eq_append_iff_of_size_eq_left hlen, Fp6.coords_inj, Fp6.coords_inj,
    Fp12.mk.injEq, and_comm]

/-- The coordinates of one, in buffer order. -/
theorem fp12One_coords : fp12One.coords = List.replicate 11 (fpOfNat 0) ++ [fpOfNat 1] := rfl

end Sys2Proof.Machine
end

section
/-! The commands of the field tower (`40_fp_tower.md`) and the constants (`10_state.md` R58), each by the shared operation it is and
the equation of its function. -/

namespace Sys2Proof.Machine

/-! ## Sums, differences, negatives, products, squares -/

/-- Settles O7: each command is the shared operation of its shape, and each function its residue. -/
theorem fpArithmetic : Obligations.FpArithmetic := by
  intro s rd ra rb a b ha hb
  refine ⟨⟨fpAdd a b, fpAdd_val a b, ?add⟩, ⟨fpSub a b, fpSub_val a b, ?sub⟩, ⟨fpNeg a, fpNeg_val a, ?neg⟩,
    ⟨fpMul a b, fpMul_val a b, ?mul⟩, ⟨fpSqr a, fpMul_val a a, ?sqr⟩⟩
  case add => exact eBinary_of_holds accepts_fp fpAdd rd ha hb
  case sub => exact eBinary_of_holds accepts_fp fpSub rd ha hb
  case neg => exact eUnary_of_holds accepts_fp fpNeg rd ha
  case mul => exact eBinary_of_holds accepts_fp fpMul rd ha hb
  case sqr => exact eUnary_of_holds accepts_fp fpSqr rd ha

/-- Settles O9: sums coordinate by coordinate, the square as the product with itself. -/
theorem fp2Arithmetic : Obligations.Fp2Arithmetic := by
  intro s rd ra rb a b ha hb
  have hsqr : (fp2Sqr a).a1.val = (2 * a.a0.val * a.a1.val) % Config.p := by
    rw [fp2Sqr, fp2Mul_a1_val]
    congr 1
    ring
  refine ⟨⟨fp2Add a b, fpAdd_val _ _, fpAdd_val _ _, ?add⟩, ⟨fp2Sub a b, fpSub_val _ _, fpSub_val _ _, ?sub⟩,
    ⟨fp2Neg a, fpNeg_val _, fpNeg_val _, ?neg⟩, ⟨fp2Mul a b, fp2Mul_a0_val a b, fp2Mul_a1_val a b, ?mul⟩,
    ⟨fp2Sqr a, fp2Mul_a0_val a a, hsqr, ?sqr⟩⟩
  case add => exact eBinary_of_holds accepts_fp2 fp2Add rd ha hb
  case sub => exact eBinary_of_holds accepts_fp2 fp2Sub rd ha hb
  case neg => exact eUnary_of_holds accepts_fp2 fp2Neg rd ha
  case mul => exact eBinary_of_holds accepts_fp2 fp2Mul rd ha hb
  case sqr => exact eUnary_of_holds accepts_fp2 fp2Sqr rd ha

/-- Settles O11: the functions are the formulas, with `MulXi` the product with `9 + u` and `MulV` the product with `v`. -/
theorem fp6AndFp12Arithmetic : Obligations.Fp6AndFp12Arithmetic := by
  refine ⟨fun s rd ra rb a b ha hb => ?fp6, fun s rd ra rb a b ha hb => ?fp12⟩
  case fp6 =>
    exact ⟨eBinary_of_holds accepts_fp6 fp6Add rd ha hb, eBinary_of_holds accepts_fp6 fp6Sub rd ha hb,
      eUnary_of_holds accepts_fp6 fp6Neg rd ha, eBinary_of_holds accepts_fp6 fp6Mul rd ha hb,
      eUnary_of_holds accepts_fp6 fp6Sqr rd ha⟩
  case fp12 =>
    rw [← mulV_eq_mul]
    exact ⟨eBinary_of_holds accepts_fp12 fp12Add rd ha hb, eBinary_of_holds accepts_fp12 fp12Sub rd ha hb,
      eUnary_of_holds accepts_fp12 fp12Neg rd ha, eBinary_of_holds accepts_fp12 fp12Mul rd ha hb,
      eUnary_of_holds accepts_fp12 fp12Sqr rd ha⟩

/-! ## Inverses -/

/-- Settles O8, by Fermat's inverse (`toZp_inv`). -/
theorem fpInverse : Obligations.FpInverse := by
  intro s rd ra a ha
  obtain ⟨hne, hzero⟩ := eNonZero_inverts accepts_fp fpMul_inv rd ha
  refine ⟨fun h => ?_, fun h => hzero ((fp_eq_zero_iff a).2 h)⟩
  obtain ⟨c, hc, hexec⟩ := hne (mt (fp_eq_zero_iff a).1 h)
  exact ⟨c, by rw [← fpMul_val, hc, fpOne_val], hexec⟩

/-- Settles O10: the norm of a non-zero element is not zero, as `-1` is no square (`toK2_inv`). -/
theorem fp2Inverse : Obligations.Fp2Inverse := by
  intro s rd ra a ha
  rw [← fp2_eq_zero_iff]
  exact eNonZero_inverts accepts_fp2 fp2Mul_inv rd ha

/-- Settles O12: `ξ` is no cube in Fp2 (`toK6_inv`) and `v` no square in Fp6 (`toK12_inv`). -/
theorem fp6AndFp12Inverse : Obligations.Fp6AndFp12Inverse :=
  ⟨fun _ rd _ _ ha => eNonZero_inverts accepts_fp6 fp6Mul_inv rd ha,
    fun _ rd _ _ ha => eNonZero_inverts accepts_fp12 fp12Mul_inv rd ha⟩

/-! ## Tests -/

/-- Settles O14: each test decides equality of elements, which is equality of their coordinates. -/
theorem equalityTests : Obligations.EqualityTests := by
  intro s ra rb
  simp only [Fp6.coords_inj, Fp12.coords_inj, ← fp12One_coords, ← fp2_ext_iff, ← Fin.ext_iff]
  exact ⟨fun _ _ ha hb => eTest2_of_holds accepts_fp fpEq ha hb, fun _ _ ha hb => eTest2_of_holds accepts_fp2 fp2Eq ha hb,
    fun _ _ ha hb => eTest2_of_holds accepts_fp6 fp6Eq ha hb, fun _ _ ha hb => eTest2_of_holds accepts_fp12 fp12Eq ha hb,
    fun _ _ ha hb => eTest2_of_holds accepts_gt fp12Eq ha hb,
    fun _ ha => eTest_of_holds accepts_gt (fun a => fp12Eq a fp12One) ha⟩

/-! ## Constants -/

/-- Settles O15: the constants are written as they stand in the ROM. -/
theorem constantCommands : Obligations.ConstantCommands :=
  fun s rd =>
    ⟨eConst_eq (.fp fpZero) rd s, eConst_eq (.fp fpOne) rd s, eConst_eq (.fp2 fp2Zero) rd s, eConst_eq (.fp2 fp2One) rd s,
      eConst_eq (.fp6 fp6Zero) rd s, eConst_eq (.fp6 fp6One) rd s, eConst_eq (.fp12 fp12Zero) rd s,
      eConst_eq (.fp12 fp12One) rd s, eConst_eq (.gt fp12One) rd s, eConst_eq (.mlo fp12One) rd s,
      fun h => ⟨pConst_of_lt .infinity h s, pConst_of_lt g1Gen h s, qConst_of_lt .infinity h s, qConst_of_lt g2Gen h s⟩⟩

end Sys2Proof.Machine
end

section
/-! The datapath forms give the values of the defining rules (`40_fp_tower.md` R126, `41_g1.md` R204): the Karatsuba products by a
ring identity on each level, the Jacobian forms over a record of field operations that reads as a domain. -/

namespace Sys2Proof.Machine

/-! ## Products with fewer multiplications (R126) -/

theorem fp2MulKaratsuba_eq (a b : Fp2) : fp2MulKaratsuba a b = fp2Mul a b := by
  have h1 : fpSub (fpSub (fpMul (fpAdd a.a0 a.a1) (fpAdd b.a0 b.a1)) (fpMul a.a0 b.a0)) (fpMul a.a1 b.a1) =
      fpAdd (fpMul a.a0 b.a1) (fpMul a.a1 b.a0) := by
    apply toZp_injective
    simp only [toZp_add, toZp_sub, toZp_mul]
    ring
  rw [fp2MulKaratsuba, h1, fp2Mul]

theorem fp2SqrComplex_eq (a : Fp2) : fp2SqrComplex a = fp2Sqr a := by
  have h0 : fpMul (fpAdd a.a0 a.a1) (fpSub a.a0 a.a1) = fpSub (fpMul a.a0 a.a0) (fpMul a.a1 a.a1) := by
    apply toZp_injective
    simp only [toZp_add, toZp_sub, toZp_mul]
    ring
  have h1 : fpMul (fpOfNat 2) (fpMul a.a0 a.a1) = fpAdd (fpMul a.a0 a.a1) (fpMul a.a1 a.a0) := by
    apply toZp_injective
    simp only [toZp_add, toZp_mul, toZp_ofNat, Nat.cast_ofNat]
    ring
  rw [fp2SqrComplex, h0, h1, fp2Sqr, fp2Mul]

theorem fp6MulKaratsuba_eq (a b : Fp6) : fp6MulKaratsuba a b = fp6Mul a b := by
  apply toK6_injective
  simp only [fp6MulKaratsuba, fp6Mul, toK6_mk, toK2_add, toK2_sub, toK2_mul, toK2_mulXi, map_add, map_sub, map_mul]
  ring

theorem fp12MulKaratsuba_eq (a b : Fp12) : fp12MulKaratsuba a b = fp12Mul a b := by
  have h : fp6Sub (fp6Sub (fp6Mul (fp6Add a.x a.y) (fp6Add b.x b.y)) (fp6Mul a.y b.y)) (fp6Mul a.x b.x) =
      fp6Add (fp6Mul a.x b.y) (fp6Mul a.y b.x) := by
    apply toK6_injective
    simp only [toK6_add, toK6_sub, toK6_mul]
    ring
  rw [fp12MulKaratsuba, h, fp12Mul]

/-! ## Jacobian coordinates (R204) -/

/-- The tangent at `(x, y)`, cleared of denominators: with `Z' = 2·Y·Z` for `(X, Y) = (x·Z², y·Z³)`, the affine coordinates of the
double times `Z'²` and `Z'³` are those of `JacDbl`. -/
theorem jacobian_tangent {K : Type} [CommRing K] {x y z l : K} (hl : l * (2 * y) = 3 * x * x) :
    (l * l - 2 * x) * (2 * (y * z ^ 3) * z) ^ 2 = 9 * (x * z ^ 2) ^ 4 - 8 * (x * z ^ 2) * (y * z ^ 3) ^ 2 ∧
    (l * (x - (l * l - 2 * x)) - y) * (2 * (y * z ^ 3) * z) ^ 3 =
      3 * (x * z ^ 2) ^ 2 * (12 * (x * z ^ 2) * (y * z ^ 3) ^ 2 - 9 * (x * z ^ 2) ^ 4) - 8 * (y * z ^ 3) ^ 4 :=
  ⟨by linear_combination z ^ 8 * (l * (2 * y) + 3 * x * x) * hl,
    by linear_combination z ^ 12 * (12 * x * y ^ 2 - (l * (2 * y)) ^ 2 - l * (2 * y) * (3 * x * x) - (3 * x * x) ^ 2) * hl⟩

/-- The chord through `(x1, y1)` and an abscissa `x2`, cleared of denominators: `h` and `r` are the differences of the abscissas and
ordinates over the common denominators `w²` and `w³`. -/
theorem jacobian_chord {K : Type} [CommRing K] {x1 y1 x2 y2 w l h r : K} (hl : l * (x2 - x1) = y2 - y1)
    (hh : h = (x2 - x1) * w ^ 2) (hr : r = (y2 - y1) * w ^ 3) :
    (l * l - x1 - x2) * (w * h) ^ 2 = r * r - h * h * h - 2 * (x1 * w ^ 2 * (h * h)) ∧
    (l * (x1 - (l * l - x1 - x2)) - y1) * (w * h) ^ 3 =
      r * (x1 * w ^ 2 * (h * h) - (r * r - h * h * h - 2 * (x1 * w ^ 2 * (h * h)))) - y1 * w ^ 3 * (h * h * h) := by
  obtain rfl : y2 = y1 + l * (x2 - x1) := by linear_combination -hl
  subst hh hr
  constructor <;> ring

section
variable {F K : Type} [CommRing K] {O : FieldOps F} {φ : F → K}

/-- `P` represents `(x, y)`: `X = x·Z²` and `Y = y·Z³` with `Z` not zero, read in `K`. -/
def Jacobian.Represents (P : Jacobian F) (φ : F → K) (x y : F) : Prop :=
  φ P.Z ≠ 0 ∧ φ P.X = φ x * φ P.Z ^ 2 ∧ φ P.Y = φ y * φ P.Z ^ 3

section
variable {P : Jacobian F} {x y : F}

theorem Jacobian.Represents.z_ne (h : P.Represents φ x y) : φ P.Z ≠ 0 := h.1

theorem Jacobian.Represents.x_eq (h : P.Represents φ x y) : φ P.X = φ x * φ P.Z ^ 2 := h.2.1

theorem Jacobian.Represents.y_eq (h : P.Represents φ x y) : φ P.Y = φ y * φ P.Z ^ 3 := h.2.2

end

/-- A triple with `Z` not zero represents some point. -/
theorem FieldOps.ReadsAs.represents_exists (hO : O.ReadsAs φ) {P : Jacobian F} (h : P.Z ≠ O.zero) :
    ∃ x y, P.Represents φ x y := by
  have hinv := hO.inv P.Z h
  refine ⟨O.mul P.X (O.mul (O.inv P.Z) (O.inv P.Z)),
    O.mul P.Y (O.mul (O.mul (O.inv P.Z) (O.inv P.Z)) (O.inv P.Z)), hO.ne_zero.1 h, ?_, ?_⟩
  · rw [hO.mul, hO.mul]
    linear_combination -φ P.X * (φ P.Z * φ (O.inv P.Z) + 1) * hinv
  · rw [hO.mul, hO.mul, hO.mul]
    linear_combination -φ P.Y * ((φ P.Z * φ (O.inv P.Z)) ^ 2 + φ P.Z * φ (O.inv P.Z) + 1) * hinv

theorem FieldOps.ReadsAs.sub_eq_zero_iff (hO : O.ReadsAs φ) {a b : F} : O.sub a b = O.zero ↔ b = a := by
  rw [← hO.injective.eq_iff, hO.sub, hO.zero, sub_eq_zero, hO.injective.eq_iff, eq_comm]

/-- The chord's slope, by its equation. -/
theorem FieldOps.ReadsAs.chordSlope_eq (hO : O.ReadsAs φ) {x1 x2 : F} (y1 y2 : F) (hx : x1 ≠ x2) :
    φ (chordSlope O x1 y1 x2 y2) * (φ x2 - φ x1) = φ y2 - φ y1 := by
  have hne : O.sub x2 x1 ≠ O.zero := by
    rw [hO.ne_zero, hO.sub, sub_ne_zero, hO.injective.ne_iff]
    exact hx.symm
  have hinv := hO.inv _ hne
  rw [hO.sub] at hinv
  rw [chordSlope, hO.mul, hO.sub]
  linear_combination (φ y2 - φ y1) * hinv

section
variable [IsDomain K]

/-- The tangent's slope, by its equation. -/
theorem FieldOps.ReadsAs.tangentSlope_eq (hO : O.ReadsAs φ) (x : F) {y : F} (hy : y ≠ O.zero) :
    φ (tangentSlope O x y) * (2 * φ y) = 3 * φ x * φ x := by
  have h2y : O.mul O.two y ≠ O.zero := by
    rw [hO.ne_zero, hO.mul, hO.two]
    exact mul_ne_zero hO.two_ne (hO.ne_zero.1 hy)
  have hinv := hO.inv _ h2y
  rw [hO.mul, hO.two] at hinv
  rw [tangentSlope, hO.mul, hO.mul, hO.mul, hO.three]
  linear_combination 3 * φ x * φ x * hinv

/-- Cross-multiplication: values over the denominators `e1` and `e2`. -/
theorem cross_mul_eq_iff {c1 c2 u1 u2 e1 e2 : K} (h1 : c1 = u1 * e1) (h2 : c2 = u2 * e2) (he1 : e1 ≠ 0) (he2 : e2 ≠ 0) :
    c1 * e2 = c2 * e1 ↔ u1 = u2 := by
  rw [h1, h2, mul_right_comm u2, mul_left_inj' he2, mul_left_inj' he1]

/-- Two triples agree in `X` over the common denominator just if their abscissas are equal. -/
theorem FieldOps.ReadsAs.crossX_eq_iff (hO : O.ReadsAs φ) {P1 P2 : Jacobian F} {x1 y1 x2 y2 : F}
    (h1 : P1.Represents φ x1 y1) (h2 : P2.Represents φ x2 y2) :
    O.mul P1.X (O.mul P2.Z P2.Z) = O.mul P2.X (O.mul P1.Z P1.Z) ↔ x1 = x2 := by
  rw [← hO.injective.eq_iff, ← hO.injective.eq_iff (a := x1)]
  simp only [hO.mul, ← pow_two]
  exact cross_mul_eq_iff h1.x_eq h2.x_eq (pow_ne_zero 2 h1.z_ne) (pow_ne_zero 2 h2.z_ne)

/-- Two triples agree in `Y` over the common denominator just if their ordinates are equal. -/
theorem FieldOps.ReadsAs.crossY_eq_iff (hO : O.ReadsAs φ) {P1 P2 : Jacobian F} {x1 y1 x2 y2 : F}
    (h1 : P1.Represents φ x1 y1) (h2 : P2.Represents φ x2 y2) :
    O.mul P1.Y (O.mul (O.mul P2.Z P2.Z) P2.Z) = O.mul P2.Y (O.mul (O.mul P1.Z P1.Z) P1.Z) ↔ y1 = y2 := by
  rw [← hO.injective.eq_iff, ← hO.injective.eq_iff (a := y1)]
  simp only [hO.mul, ← pow_two, ← pow_succ, Nat.reduceAdd]
  exact cross_mul_eq_iff h1.y_eq h2.y_eq (pow_ne_zero 3 h1.z_ne) (pow_ne_zero 3 h2.z_ne)

end

variable [DecidableEq F]

theorem toAffine_of_eq {P : Jacobian F} (h : P.Z = O.zero) : toAffine O P = .infinity := if_pos h

theorem jacAdd_of_left_zero (anyX anyY : F) {P1 P2 : Jacobian F} (h : P1.Z = O.zero) : jacAdd O anyX anyY P1 P2 = P2 :=
  if_pos h

theorem jacAdd_of_right_zero (anyX anyY : F) {P1 P2 : Jacobian F} (h1 : P1.Z ≠ O.zero) (h2 : P2.Z = O.zero) :
    jacAdd O anyX anyY P1 P2 = P1 := by
  rw [jacAdd, if_neg h1, if_pos h2]

/-- `ToAffine` gives the point a triple represents. -/
theorem FieldOps.ReadsAs.toAffine_of_represents (hO : O.ReadsAs φ) {P : Jacobian F} {x y : F} (h : P.Represents φ x y) :
    toAffine O P = .affine x y := by
  have hz := hO.ne_zero.2 h.z_ne
  have hinv := hO.inv P.Z hz
  rw [toAffine, if_neg hz, Point.affine.injEq]
  constructor
  · apply hO.injective
    rw [hO.mul, hO.mul, h.x_eq]
    linear_combination φ x * (φ P.Z * φ (O.inv P.Z) + 1) * hinv
  · apply hO.injective
    rw [hO.mul, hO.mul, hO.mul, h.y_eq]
    linear_combination φ y * ((φ P.Z * φ (O.inv P.Z)) ^ 2 + φ P.Z * φ (O.inv P.Z) + 1) * hinv

variable [IsDomain K]

/-- `JacDbl` is `Dbl`, on any triple. -/
theorem FieldOps.ReadsAs.toAffine_jacDbl (hO : O.ReadsAs φ) (P : Jacobian F) :
    toAffine O (jacDbl O P) = pointDbl O (toAffine O P) := by
  have hZ : φ (jacDbl O P).Z = 2 * φ P.Y * φ P.Z := by simp only [jacDbl, hO.mul, hO.two]
  have hzero : φ (jacDbl O P).Z = 0 → toAffine O (jacDbl O P) = .infinity := fun h =>
    toAffine_of_eq (hO.injective (by rw [h, hO.zero]))
  by_cases hz : P.Z = O.zero
  · rw [toAffine_of_eq hz, hzero (by rw [hZ, hz, hO.zero, mul_zero])]
    rfl
  obtain ⟨x, y, hP⟩ := hO.represents_exists hz
  rw [hO.toAffine_of_represents hP, pointDbl]
  split_ifs with hy
  · exact hzero (by rw [hZ, hP.y_eq, hy, hO.zero, zero_mul, mul_zero, zero_mul])
  obtain ⟨hx3, hy3⟩ := jacobian_tangent (z := φ P.Z) (hO.tangentSlope_eq x hy)
  apply hO.toAffine_of_represents
  refine ⟨?_, ?_, ?_⟩
  · rw [hZ, hP.y_eq]
    exact mul_ne_zero (mul_ne_zero hO.two_ne (mul_ne_zero (hO.ne_zero.1 hy) (pow_ne_zero 3 hP.z_ne))) hP.z_ne
  · simp only [jacDbl, hO.sub, hO.mul, hO.add, hO.two, hO.three, hP.x_eq, hP.y_eq]
    linear_combination -hx3
  · simp only [jacDbl, times8, hO.sub, hO.mul, hO.add, hO.two, hO.three, hP.x_eq, hP.y_eq]
    linear_combination -hy3

/-- `JacAdd` is `Add`, on any two triples and whatever the coordinates of an identity it gives. -/
theorem FieldOps.ReadsAs.toAffine_jacAdd (hO : O.ReadsAs φ) (anyX anyY : F) (P1 P2 : Jacobian F) :
    toAffine O (jacAdd O anyX anyY P1 P2) = pointAdd O (toAffine O P1) (toAffine O P2) := by
  by_cases hz1 : P1.Z = O.zero
  · rw [jacAdd_of_left_zero anyX anyY hz1, toAffine_of_eq hz1, pointAdd]
  by_cases hz2 : P2.Z = O.zero
  · rw [jacAdd_of_right_zero anyX anyY hz1 hz2, toAffine_of_eq hz2]
    cases toAffine O P1 <;> rfl
  obtain ⟨x1, y1, h1⟩ := hO.represents_exists hz1
  obtain ⟨x2, y2, h2⟩ := hO.represents_exists hz2
  rw [hO.toAffine_of_represents h1, hO.toAffine_of_represents h2, pointAdd, jacAdd, if_neg hz1, if_neg hz2]
  simp only [hO.sub_eq_zero_iff, hO.crossX_eq_iff h1 h2, hO.crossY_eq_iff h1 h2]
  split_ifs with hxy hx
  · rw [hO.toAffine_jacDbl, hO.toAffine_of_represents h1]
  · exact toAffine_of_eq rfl
  obtain ⟨hx3, hy3⟩ := jacobian_chord (w := φ P1.Z * φ P2.Z) (hO.chordSlope_eq y1 y2 hx) rfl rfl
  apply hO.toAffine_of_represents
  refine ⟨?_, ?_, ?_⟩
  · simp only [hO.mul]
    have hh := mt (hO.sub_eq_zero_iff.trans (hO.crossX_eq_iff h1 h2)).1 hx
    exact mul_ne_zero (mul_ne_zero h1.z_ne h2.z_ne) (hO.ne_zero.1 hh)
  · simp only [hO.sub, hO.mul, hO.two, h1.x_eq, h1.y_eq, h2.x_eq, h2.y_eq]
    linear_combination -hx3
  · simp only [hO.sub, hO.mul, hO.two, h1.x_eq, h1.y_eq, h2.x_eq, h2.y_eq]
    linear_combination -hy3

/-- The test on representatives is equality of the points. -/
theorem FieldOps.ReadsAs.jacEq_eq (hO : O.ReadsAs φ) {P1 P2 : Jacobian F} (hz1 : P1.Z ≠ O.zero) (hz2 : P2.Z ≠ O.zero) :
    jacEq O P1 P2 = pointEq (toAffine O P1) (toAffine O P2) := by
  obtain ⟨x1, y1, h1⟩ := hO.represents_exists hz1
  obtain ⟨x2, y2, h2⟩ := hO.represents_exists hz2
  rw [hO.toAffine_of_represents h1, hO.toAffine_of_represents h2, jacEq, pointEq]
  simp only [hO.crossX_eq_iff h1 h2, hO.crossY_eq_iff h1 h2]

end

/-- Settles O34: the Karatsuba forms level by level, the Jacobian forms at Fp. -/
theorem datapathFormsAgree : Obligations.DatapathFormsAgree :=
  have := isDomain_Zp
  ⟨fun a b => ⟨fp2MulKaratsuba_eq a b, fp2SqrComplex_eq a⟩, fp6MulKaratsuba_eq, fp12MulKaratsuba_eq,
    fpOps_readsAs.toAffine_jacDbl, fpOps_readsAs.toAffine_jacAdd, fun _ _ => fpOps_readsAs.jacEq_eq⟩

end Sys2Proof.Machine
end

section
/-! SUPPORT. The shared operations on point registers that are valid (`41_g1.md` R207 to R216): with its indices in range and its
operands valid, a command over the `P` file completes with its effect. -/

namespace Sys2Proof.Machine

variable {s : State} {rd ra rb : PIdx} {A B : G1Point}

/-- A valid register has an index in range, and the fetch gives its point. -/
theorem getP_of_holdsP (h : s.holdsP ra A) : ∃ a, pIdx ra = .ok a ∧ ∀ w, getP s a w = .ok A := by
  obtain ⟨a, hidx, hval⟩ := (holdsP_iff s ra A).1 h
  exact ⟨a, pIdx_ok.2 hidx, fun _ => getP_ok.2 hval⟩

/-- A destination in range has an index, and the write to it completes as `afterP`. -/
theorem pIdx_of_lt (hrd : rd.toNat < 8) :
    ∃ d, pIdx rd = .ok d ∧ ∀ (s : State) (A : G1Point), s.afterP rd A = (s.setP d A).completed :=
  ⟨⟨rd.toNat, hrd⟩, pIdx_ok.2 rfl, fun s A => (completed_setP s rd _ rfl A).symm⟩

theorem pBinary_of_holds (f : G1Point → G1Point → G1Point) (hrd : rd.toNat < 8) (hA : s.holdsP ra A) (hB : s.holdsP rb B) :
    pBinary f rd ra rb s = .next (s.afterP rd (f A B)) := by
  obtain ⟨d, hd, hend⟩ := pIdx_of_lt hrd
  obtain ⟨a, ha, hgetA⟩ := getP_of_holdsP hA
  obtain ⟨b, hb, hgetB⟩ := getP_of_holdsP hB
  exact State.finish_next.2 (.inl ⟨_,
    bind_ok.2 ⟨d, hd, bind_ok.2 ⟨a, ha, bind_ok.2 ⟨b, hb, bind_ok.2 ⟨A, hgetA _, bind_ok.2 ⟨B, hgetB _, rfl⟩⟩⟩⟩⟩, hend s _⟩)

theorem pUnary_of_holds (f : G1Point → G1Point) (hrd : rd.toNat < 8) (hA : s.holdsP ra A) :
    pUnary f rd ra s = .next (s.afterP rd (f A)) := by
  obtain ⟨d, hd, hend⟩ := pIdx_of_lt hrd
  obtain ⟨a, ha, hgetA⟩ := getP_of_holdsP hA
  exact State.finish_next.2 (.inl ⟨_, bind_ok.2 ⟨d, hd, bind_ok.2 ⟨a, ha, bind_ok.2 ⟨A, hgetA _, rfl⟩⟩⟩, hend s _⟩)

theorem pTest2_of_holds (test : G1Point → G1Point → Bool) (hA : s.holdsP ra A) (hB : s.holdsP rb B) :
    pTest2 test ra rb s = .next (s.afterT (test A B)) := by
  obtain ⟨a, ha, hgetA⟩ := getP_of_holdsP hA
  obtain ⟨b, hb, hgetB⟩ := getP_of_holdsP hB
  exact State.finish_next.2 (.inl ⟨s.setT (test A B),
    bind_ok.2 ⟨a, ha, bind_ok.2 ⟨b, hb, bind_ok.2 ⟨A, hgetA _, bind_ok.2 ⟨B, hgetB _, rfl⟩⟩⟩⟩, (completed_setT s _).symm⟩)

theorem pTest_of_holds (test : G1Point → Bool) (hA : s.holdsP ra A) : pTest test ra s = .next (s.afterT (test A)) := by
  obtain ⟨a, ha, hgetA⟩ := getP_of_holdsP hA
  exact State.finish_next.2 (.inl ⟨s.setT (test A), bind_ok.2 ⟨a, ha, bind_ok.2 ⟨A, hgetA _, rfl⟩⟩, (completed_setT s _).symm⟩)

/-- A check that its operand passes completes and writes nothing. -/
theorem pRequire_of_true {ok : G1Point → Bool} (x : Exn) (hA : s.holdsP ra A) (hok : ok A = true) :
    pRequire ok x ra s = .next s.afterNone := by
  obtain ⟨a, ha, hgetA⟩ := getP_of_holdsP hA
  exact State.finish_next.2 (.inl ⟨s, bind_ok.2 ⟨a, ha, bind_ok.2 ⟨A, hgetA _, if_pos hok⟩⟩, (completed_eq_afterNone s).symm⟩)

/-- A check that its operand fails raises its exception. -/
theorem pRequire_of_false {ok : G1Point → Bool} (x : Exn) (hA : s.holdsP ra A) (hok : ok A = false) :
    pRequire ok x ra s = .next (s.afterRaise x.code x.sub x.idx) := by
  obtain ⟨a, ha, hgetA⟩ := getP_of_holdsP hA
  have hfails : ¬ ok A = true := Bool.eq_false_iff.1 hok
  exact State.finish_next.2 (.inr ⟨x, bind_error.2 (.inr ⟨a, ha, bind_error.2 (.inr ⟨A, hgetA _, if_neg hfails⟩)⟩),
    (raised_eq_afterRaise s x).symm⟩)

end Sys2Proof.Machine
end

section
/-! SUPPORT. The group law by its cases (`41_g1.md` R201, R202), over any record of field operations; the slopes by their equations,
where the record reads as a domain; the tests as decisions (R205). -/

namespace Sys2Proof.Machine

section
variable {F : Type} [DecidableEq F] {O : FieldOps F}

/-! ## The cases of the law -/

theorem pointAdd_infinity_right (A : Point F) : pointAdd O A .infinity = A := by cases A <;> rfl

theorem pointAdd_self (A : Point F) : pointAdd O A A = pointDbl O A := by
  cases A with
  | infinity => rfl
  | affine x y => exact if_pos ⟨rfl, rfl⟩

theorem pointAdd_of_x_ne {x1 x2 : F} (y1 y2 : F) (hx : x1 ≠ x2) :
    pointAdd O (.affine x1 y1) (.affine x2 y2) = chordPoint O (chordSlope O x1 y1 x2 y2) x1 y1 x2 := by
  rw [pointAdd, if_neg fun h => hx h.1, if_neg hx]

theorem pointAdd_of_y_ne (x : F) {y1 y2 : F} (hy : y1 ≠ y2) : pointAdd O (.affine x y1) (.affine x y2) = .infinity := by
  rw [pointAdd, if_neg fun h => hy h.2, if_pos rfl]

theorem pointDbl_of_y_zero (x : F) {y : F} (hy : y = O.zero) : pointDbl O (.affine x y) = .infinity := if_pos hy

/-- The double of a point with `y` not zero, by the slope of its tangent. -/
theorem pointDbl_of_y_ne_zero (x : F) {y l x3 : F} (hy : y ≠ O.zero) (hl : l = tangentSlope O x y)
    (hx3 : x3 = O.sub (O.mul l l) (O.mul O.two x)) :
    pointDbl O (.affine x y) = .affine x3 (O.sub (O.mul l (O.sub x x3)) y) := by
  subst hl hx3
  exact if_neg hy

/-! ## The tests -/

theorem pointIsId_eq_decide (A : Point F) : pointIsId A = decide (A = .infinity) := by cases A <;> rfl

theorem pointEq_eq_decide (A B : Point F) : pointEq A B = decide (A = B) := by
  cases A <;> cases B <;> simp [pointEq]

end

/-! ## The slopes -/

section
variable {F K : Type} [CommRing K] {O : FieldOps F} {φ : F → K}

theorem FieldOps.ReadsAs.chordSlope_mul (hO : O.ReadsAs φ) {x1 x2 : F} (y1 y2 : F) (hx : x1 ≠ x2) :
    O.mul (chordSlope O x1 y1 x2 y2) (O.sub x2 x1) = O.sub y2 y1 :=
  hO.injective (by rw [hO.mul, hO.sub, hO.sub, hO.chordSlope_eq y1 y2 hx])

theorem FieldOps.ReadsAs.tangentSlope_mul [IsDomain K] (hO : O.ReadsAs φ) (x : F) {y : F} (hy : y ≠ O.zero) :
    O.mul (tangentSlope O x y) (O.mul O.two y) = O.mul O.three (O.mul x x) :=
  hO.injective (by simp only [hO.mul, hO.two, hO.three, hO.tangentSlope_eq x hy, mul_assoc])

end

/-! ## The curve equation -/

/-- The equation of G1 in integers modulo `p` (`41_g1.md` R200). -/
theorem onCurve1_affine (x y : Fp) :
    onCurve1 (.affine x y) = decide ((y.val * y.val) % Config.p = (x.val * x.val * x.val + 3) % Config.p) := by
  have hright : (fpAdd (fpMul (fpMul x x) x) curveB).val = (x.val * x.val * x.val + 3) % Config.p := by
    rw [fpAdd_val, fpMul_val, fpMul_val, Nat.mod_mul_mod, Nat.mod_add_mod]
    rfl
  rw [← fpMul_val, ← hright]
  exact decide_eq_decide.2 Fin.ext_iff

end Sys2Proof.Machine
end

section
/-! The commands of G1 (`41_g1.md` R207 to R213, R216), each by the shared operation it is and the case of its function. -/

namespace Sys2Proof.Machine

/-- Settles O18: both commands write what the group law gives, case by case; each slope is the model's quotient, which satisfies
its equation because the denominator is not zero. -/
theorem g1AdditionAndDoubling : Obligations.G1AdditionAndDoubling := by
  have := isDomain_Zp
  intro s rd ra rb hrd
  have hadd {A B C : G1Point} (hA : s.holdsP ra A) (hB : s.holdsP rb B) (hC : add1 A B = C) :
      exec (.g1Add rd ra rb) s = .next (s.afterP rd C) := hC ▸ pBinary_of_holds add1 hrd hA hB
  have hdbl {A C : G1Point} (hA : s.holdsP ra A) (hC : dbl1 A = C) :
      exec (.g1Dbl rd ra) s = .next (s.afterP rd C) := hC ▸ pUnary_of_holds dbl1 hrd hA
  have hself {A C : G1Point} (hC : dbl1 A = C) : add1 A A = C := (pointAdd_self A).trans hC
  refine ⟨?idRight, ?idLeft, ?chord, ?opposite, ?tangent, ?vertical, ?dblId⟩
  case idRight => exact fun A hA hB => hadd hA hB (pointAdd_infinity_right A)
  case idLeft => exact fun B hA hB => hadd hA hB rfl
  case chord =>
    intro x1 y1 x2 y2 hx hA hB
    exact ⟨chordSlope fpOps x1 y1 x2 y2, _, _, fpOps_readsAs.chordSlope_mul y1 y2 hx, rfl, rfl,
      hadd hA hB (pointAdd_of_x_ne y1 y2 hx)⟩
  case opposite => exact fun x y1 y2 hy hA hB => hadd hA hB (pointAdd_of_y_ne x hy)
  case tangent =>
    intro x y hy hA
    have hy0 : y ≠ fpZero := mt (fp_eq_zero_iff y).1 hy
    have hC := pointDbl_of_y_ne_zero (O := fpOps) x hy0 rfl rfl
    exact ⟨tangentSlope fpOps x y, _, _, fpOps_readsAs.tangentSlope_mul x hy0, rfl, rfl, hdbl hA hC,
      fun hB => hadd hA hB (hself hC)⟩
  case vertical =>
    intro x y hy hA
    have hC := pointDbl_of_y_zero (O := fpOps) x ((fp_eq_zero_iff y).2 hy)
    exact ⟨hdbl hA hC, fun hB => hadd hA hB (hself hC)⟩
  case dblId => exact fun hA => hdbl hA rfl

/-- Settles O19: each command is the shared operation of its shape, and each test decides its predicate. -/
theorem g1MovesAndTests : Obligations.G1MovesAndTests := by
  intro s rd ra rb A B hrd hA hB
  have hneg : exec (.g1Neg rd ra) s = .next (s.afterP rd (neg1 A)) := pUnary_of_holds neg1 hrd hA
  have hcurve : exec (.g1IsOnCurve ra) s = .next (s.afterT (onCurve1 A)) := pTest_of_holds onCurve1 hA
  refine ⟨pUnary_of_holds id hrd hA, ?negId, ?negAffine, ?curveId, ?curveAffine, ?isId, ?eq,
    pRequire_of_true .notInSubgroup hA, pRequire_of_false .notInSubgroup hA⟩
  case negId =>
    rintro rfl
    exact hneg
  case negAffine =>
    rintro x y rfl
    exact ⟨fpNeg y, fpNeg_val y, hneg⟩
  case curveId =>
    rintro rfl
    exact hcurve
  case curveAffine =>
    rintro x y rfl
    rw [← onCurve1_affine]
    exact hcurve
  case isId =>
    rw [← pointIsId_eq_decide]
    exact pTest_of_holds pointIsId hA
  case eq =>
    rw [← pointEq_eq_decide]
    exact pTest2_of_holds eq1 hA hB

end Sys2Proof.Machine
end

section
/-! SUPPORT. The shared operations on `Q` registers that are valid (`42_g2.md` R234 to R243): with its indices in range and its
operands valid, a command over the `Q` file completes with its effect. -/

namespace Sys2Proof.Machine

variable {s : State} {rd ra rb : QIdx} {A B : G2Point}

/-- A valid register has an index in range, and the fetch gives its point. -/
theorem getQ_of_holdsQ (h : s.holdsQ ra A) : ∃ a, qIdx ra = .ok a ∧ ∀ w, getQ s a w = .ok A := by
  obtain ⟨a, hidx, hval⟩ := (holdsQ_iff s ra A).1 h
  exact ⟨a, qIdx_ok.2 hidx, fun _ => getQ_ok.2 hval⟩

/-- A destination in range has an index, and the write to it completes as `afterQ`. -/
theorem qIdx_of_lt (hrd : rd.toNat < 8) :
    ∃ d, qIdx rd = .ok d ∧ ∀ (s : State) (A : G2Point), s.afterQ rd A = (s.setQ d A).completed :=
  ⟨⟨rd.toNat, hrd⟩, qIdx_ok.2 rfl, fun s A => (completed_setQ s rd _ rfl A).symm⟩

theorem qBinary_of_holds (f : G2Point → G2Point → G2Point) (hrd : rd.toNat < 8) (hA : s.holdsQ ra A) (hB : s.holdsQ rb B) :
    qBinary f rd ra rb s = .next (s.afterQ rd (f A B)) := by
  obtain ⟨d, hd, hend⟩ := qIdx_of_lt hrd
  obtain ⟨a, ha, hgetA⟩ := getQ_of_holdsQ hA
  obtain ⟨b, hb, hgetB⟩ := getQ_of_holdsQ hB
  exact State.finish_next.2 (.inl ⟨_,
    bind_ok.2 ⟨d, hd, bind_ok.2 ⟨a, ha, bind_ok.2 ⟨b, hb, bind_ok.2 ⟨A, hgetA _, bind_ok.2 ⟨B, hgetB _, rfl⟩⟩⟩⟩⟩, hend s _⟩)

theorem qUnary_of_holds (f : G2Point → G2Point) (hrd : rd.toNat < 8) (hA : s.holdsQ ra A) :
    qUnary f rd ra s = .next (s.afterQ rd (f A)) := by
  obtain ⟨d, hd, hend⟩ := qIdx_of_lt hrd
  obtain ⟨a, ha, hgetA⟩ := getQ_of_holdsQ hA
  exact State.finish_next.2 (.inl ⟨_, bind_ok.2 ⟨d, hd, bind_ok.2 ⟨a, ha, bind_ok.2 ⟨A, hgetA _, rfl⟩⟩⟩, hend s _⟩)

theorem qTest2_of_holds (test : G2Point → G2Point → Bool) (hA : s.holdsQ ra A) (hB : s.holdsQ rb B) :
    qTest2 test ra rb s = .next (s.afterT (test A B)) := by
  obtain ⟨a, ha, hgetA⟩ := getQ_of_holdsQ hA
  obtain ⟨b, hb, hgetB⟩ := getQ_of_holdsQ hB
  exact State.finish_next.2 (.inl ⟨s.setT (test A B),
    bind_ok.2 ⟨a, ha, bind_ok.2 ⟨b, hb, bind_ok.2 ⟨A, hgetA _, bind_ok.2 ⟨B, hgetB _, rfl⟩⟩⟩⟩, (completed_setT s _).symm⟩)

theorem qTest_of_holds (test : G2Point → Bool) (hA : s.holdsQ ra A) : qTest test ra s = .next (s.afterT (test A)) := by
  obtain ⟨a, ha, hgetA⟩ := getQ_of_holdsQ hA
  exact State.finish_next.2 (.inl ⟨s.setT (test A), bind_ok.2 ⟨a, ha, bind_ok.2 ⟨A, hgetA _, rfl⟩⟩, (completed_setT s _).symm⟩)

/-- A check that its operand passes completes and writes nothing. -/
theorem qRequire_of_true {ok : G2Point → Bool} (x : Exn) (hA : s.holdsQ ra A) (hok : ok A = true) :
    qRequire ok x ra s = .next s.afterNone := by
  obtain ⟨a, ha, hgetA⟩ := getQ_of_holdsQ hA
  exact State.finish_next.2 (.inl ⟨s, bind_ok.2 ⟨a, ha, bind_ok.2 ⟨A, hgetA _, if_pos hok⟩⟩, (completed_eq_afterNone s).symm⟩)

/-- A check that its operand fails raises its exception. -/
theorem qRequire_of_false {ok : G2Point → Bool} (x : Exn) (hA : s.holdsQ ra A) (hok : ok A = false) :
    qRequire ok x ra s = .next (s.afterRaise x.code x.sub x.idx) := by
  obtain ⟨a, ha, hgetA⟩ := getQ_of_holdsQ hA
  have hfails : ¬ ok A = true := Bool.eq_false_iff.1 hok
  exact State.finish_next.2 (.inr ⟨x, bind_error.2 (.inr ⟨a, ha, bind_error.2 (.inr ⟨A, hgetA _, if_neg hfails⟩)⟩),
    (raised_eq_afterRaise s x).symm⟩)

end Sys2Proof.Machine
end

section
/-! The commands of the twist curve (`42_g2.md` R234 to R240, R243), each by the shared operation it is and the case of its function.
The law is the one of G1 over another record of field operations, so its cases and slope equations are the same lemmas. -/

namespace Sys2Proof.Machine

/-- The negative of R122 is the difference from zero. -/
theorem fp2Sub_zero_left (a : Fp2) : fp2Sub fp2Zero a = fp2Neg a :=
  toK2_injective (by rw [toK2_sub, toK2_zero, toK2_neg, zero_sub])

/-- The equation of the twist curve (`42_g2.md` R230). -/
theorem onCurve2_affine (x y : Fp2) :
    onCurve2 (.affine x y) = decide (fp2Mul y y = fp2Add (fp2Mul (fp2Mul x x) x) twistB) := rfl

/-- Settles O20: both commands write what the group law gives, case by case; each slope is the model's quotient over Fp2, which
satisfies its equation because the denominator is not zero. -/
theorem g2AdditionAndDoubling : Obligations.G2AdditionAndDoubling := by
  have := isDomain_K2
  intro s rd ra rb hrd
  have hadd {A B C : G2Point} (hA : s.holdsQ ra A) (hB : s.holdsQ rb B) (hC : add2 A B = C) :
      exec (.g2Add rd ra rb) s = .next (s.afterQ rd C) := hC ▸ qBinary_of_holds add2 hrd hA hB
  have hboth {A C : G2Point} (hA : s.holdsQ ra A) (hC : dbl2 A = C) :
      exec (.g2Dbl rd ra) s = .next (s.afterQ rd C) ∧
        (s.holdsQ rb A → exec (.g2Add rd ra rb) s = .next (s.afterQ rd C)) :=
    ⟨hC ▸ qUnary_of_holds dbl2 hrd hA, fun hB => hadd hA hB ((pointAdd_self A).trans hC)⟩
  refine ⟨?idRight, ?idLeft, ?chord, ?opposite, ?tangent, ?vertical, ?dblId⟩
  case idRight => exact fun A hA hB => hadd hA hB (pointAdd_infinity_right A)
  case idLeft => exact fun B hA hB => hadd hA hB rfl
  case chord =>
    intro x1 y1 x2 y2 hx hA hB
    exact ⟨chordSlope fp2Ops x1 y1 x2 y2, _, _, fp2Ops_readsAs.chordSlope_mul y1 y2 hx, rfl, rfl,
      hadd hA hB (pointAdd_of_x_ne y1 y2 hx)⟩
  case opposite => exact fun x y1 y2 hy hA hB => hadd hA hB (pointAdd_of_y_ne x hy)
  case tangent =>
    intro x y hy hA
    exact ⟨tangentSlope fp2Ops x y, _, _, fp2Ops_readsAs.tangentSlope_mul x hy, rfl, rfl,
      hboth hA (pointDbl_of_y_ne_zero (O := fp2Ops) x hy rfl rfl)⟩
  case vertical => exact fun x y hy hA => hboth hA (pointDbl_of_y_zero (O := fp2Ops) x hy)
  case dblId => exact fun hA => (hboth hA rfl).1

/-- Settles O21: each command is the shared operation of its shape, and each test decides its predicate. -/
theorem g2MovesAndTests : Obligations.G2MovesAndTests := by
  intro s rd ra rb A B hrd hA hB
  have hneg : exec (.g2Neg rd ra) s = .next (s.afterQ rd (neg2 A)) := qUnary_of_holds neg2 hrd hA
  have hcurve : exec (.g2IsOnCurve ra) s = .next (s.afterT (onCurve2 A)) := qTest_of_holds onCurve2 hA
  refine ⟨qUnary_of_holds id hrd hA, ?negId, ?negAffine, ?curveId, ?curveAffine, ?isId, ?eq,
    qRequire_of_true .notInSubgroup hA, qRequire_of_false .notInSubgroup hA⟩
  case negId =>
    rintro rfl
    exact hneg
  case negAffine =>
    rintro x y rfl
    rw [fp2Sub_zero_left]
    exact hneg
  case curveId =>
    rintro rfl
    exact hcurve
  case curveAffine =>
    rintro x y rfl
    rw [onCurve2_affine] at hcurve
    exact hcurve
  case isId =>
    rw [← pointIsId_eq_decide]
    exact qTest_of_holds pointIsId hA
  case eq =>
    rw [← pointEq_eq_decide]
    exact qTest2_of_holds eq2 hA hB

end Sys2Proof.Machine
end

section
/-! SUPPORT. The ladder of R263 on the points and scalars whose result is known without the group law (`43_scalar_mult.md` R262),
and `G1.SMUL` and `G2.SMUL` on registers that are valid. -/

namespace Sys2Proof.Machine

section
variable {F : Type} [DecidableEq F] {O : FieldOps F}

theorem ladderFrom_infinity (k n : Nat) : ladderFrom O .infinity k n .infinity = .infinity := by
  induction n with
  | zero => rfl
  | succ n ih => exact (congrArg (ladderFrom O .infinity k n) (ite_self _)).trans ih

/-- Until the first bit of the scalar the running point is the identity. -/
theorem ladderFrom_zero (A : Point F) (n : Nat) : ladderFrom O A 0 n .infinity = .infinity := by
  induction n with
  | zero => rfl
  | succ n ih =>
    rw [ladderFrom, Nat.zero_testBit]
    exact ih

/-- The only bit of 1 is the last one, and there the running point is still the identity. -/
theorem ladderFrom_one (A : Point F) (n : Nat) : ladderFrom O A 1 (n + 1) .infinity = A := by
  induction n with
  | zero => cases A <;> rfl
  | succ n ih =>
    have hbit : Nat.testBit 1 (n + 1) = false := Bool.eq_false_iff.2 (mt Nat.testBit_one_eq_true_iff_self_eq_zero.1 n.succ_ne_zero)
    rw [ladderFrom, hbit]
    exact ih

theorem scalarMul_infinity (k : Nat) : scalarMul O .infinity k = .infinity := ladderFrom_infinity _ _

theorem scalarMul_of_mod_zero (A : Point F) {k : Nat} (hk : k % groupOrder = 0) : scalarMul O A k = .infinity := by
  rw [scalarMul, hk]
  exact ladderFrom_zero A _

theorem scalarMul_of_mod_one (A : Point F) {k : Nat} (hk : k % groupOrder = 1) : scalarMul O A k = A := by
  rw [scalarMul, hk]
  exact ladderFrom_one A _

end

section
variable {s : State} {rb : KIdx} {k : BitVec 256}

/-- A valid scalar register has an index in range, and the fetch gives its scalar. -/
theorem getK_of_holdsK (h : s.holdsK rb k) : ∃ b, kIdx rb = .ok b ∧ ∀ w, getK s b w = .ok k := by
  obtain ⟨b, hidx, hval⟩ := (holdsK_iff s rb k).1 h
  exact ⟨b, kIdx_ok.2 hidx, fun _ => getK_ok.2 hval⟩

theorem execG1Smul_of_holds {rd ra : PIdx} {A : G1Point} (hrd : rd.toNat < 8) (hA : s.holdsP ra A) (hk : s.holdsK rb k) :
    exec (.g1Smul rd ra rb) s = .next (s.afterP rd (smul1 A k.toNat)) := by
  obtain ⟨d, hd, hend⟩ := pIdx_of_lt hrd
  obtain ⟨a, ha, hgetA⟩ := getP_of_holdsP hA
  obtain ⟨b, hb, hgetK⟩ := getK_of_holdsK hk
  exact State.finish_next.2 (.inl ⟨_,
    bind_ok.2 ⟨d, hd, bind_ok.2 ⟨a, ha, bind_ok.2 ⟨b, hb, bind_ok.2 ⟨A, hgetA _, bind_ok.2 ⟨k, hgetK _, rfl⟩⟩⟩⟩⟩,
    hend s _⟩)

theorem execG2Smul_of_holds {rd ra : QIdx} {A : G2Point} (hrd : rd.toNat < 8) (hA : s.holdsQ ra A) (hk : s.holdsK rb k) :
    exec (.g2Smul rd ra rb) s = .next (s.afterQ rd (smul2 A k.toNat)) := by
  obtain ⟨d, hd, hend⟩ := qIdx_of_lt hrd
  obtain ⟨a, ha, hgetA⟩ := getQ_of_holdsQ hA
  obtain ⟨b, hb, hgetK⟩ := getK_of_holdsK hk
  exact State.finish_next.2 (.inl ⟨_,
    bind_ok.2 ⟨d, hd, bind_ok.2 ⟨a, ha, bind_ok.2 ⟨b, hb, bind_ok.2 ⟨A, hgetA _, bind_ok.2 ⟨k, hgetK _, rfl⟩⟩⟩⟩⟩,
    hend s _⟩)

end

/-- Settles O27: the commands write the ladder's point, and on these points and scalars the ladder adds nothing to the identity, or
the point once. -/
theorem scalarMultiplicationSpecialCases : Obligations.ScalarMultiplicationSpecialCases := by
  constructor
  · intro s rd ra rb A k hrd hA hk
    refine ⟨smul1 A k.toNat, execG1Smul_of_holds hrd hA hk, ?_, scalarMul_of_mod_zero A, scalarMul_of_mod_one A⟩
    rintro rfl
    exact scalarMul_infinity _
  · intro s rd ra rb A k hrd hA hk
    refine ⟨smul2 A k.toNat, execG2Smul_of_holds hrd hA hk, ?_, scalarMul_of_mod_zero A, scalarMul_of_mod_one A⟩
    rintro rfl
    exact scalarMul_infinity _

end Sys2Proof.Machine
end

section
/-! SUPPORT. The group law of the model is the group law of an elliptic curve (`41_g1.md` R201, R202, `42_g2.md` R231): read in a
field, the points of the curve are those of Mathlib's Weierstrass curve, whose points are a group, so the ladder and the repeated
sum are the same multiple (`43_scalar_mult.md` R260, R263). -/

namespace Sys2Proof.Machine

open WeierstrassCurve.Affine

section
variable {K : Type} [Field K]

/-- The curve `y² = x³ + c`. -/
def shortCurve (c : K) : WeierstrassCurve.Affine K := { a₁ := 0, a₂ := 0, a₃ := 0, a₄ := 0, a₆ := c }

theorem shortCurve_negY (c x y : K) : (shortCurve c).negY x y = -y := by simp [negY, shortCurve]

theorem shortCurve_addX (c x1 x2 l : K) : (shortCurve c).addX x1 x2 l = l * l - x1 - x2 := by
  simp only [addX, shortCurve]
  ring

theorem shortCurve_addY (c x1 x2 y1 l : K) :
    (shortCurve c).addY x1 x2 y1 l = l * (x1 - (l * l - x1 - x2)) - y1 := by
  simp only [addY, negAddY, shortCurve_negY, shortCurve_addX]
  ring

/-- A point of `y² = x³ + c` is nonsingular, where 2 and 3 are not zero and `c` is not zero. -/
theorem shortCurve_nonsingular {c x y : K} (h2 : (2 : K) ≠ 0) (h3 : (3 : K) ≠ 0) (hc : c ≠ 0)
    (h : y * y = x * x * x + c) : (shortCurve c).Nonsingular x y := by
  refine (equation_iff_nonsingular_of_Δ_ne_zero ?_).1 ((equation_iff x y).2 ?_)
  · have hΔ : (shortCurve c).Δ = -(2 ^ 4 * 3 ^ 3 * c ^ 2) := by
      simp only [WeierstrassCurve.Δ, WeierstrassCurve.b₂, WeierstrassCurve.b₄, WeierstrassCurve.b₆, WeierstrassCurve.b₈,
        shortCurve]
      ring
    rw [hΔ]
    exact neg_ne_zero.2 (mul_ne_zero (mul_ne_zero (pow_ne_zero 4 h2) (pow_ne_zero 3 h3)) (pow_ne_zero 2 hc))
  · simp only [shortCurve]
    linear_combination h

end

section
variable {F K : Type} [Field K] {O : FieldOps F} {φ : F → K} {c : K}

/-- `A` read in `K` is the point `P` of the curve. -/
def ReadsPoint (φ : F → K) : Point F → (shortCurve c).Point → Prop
  | .infinity, P => P = 0
  | .affine x y, P => ∃ h : (shortCurve c).Nonsingular (φ x) (φ y), P = .some (φ x) (φ y) h

theorem ReadsPoint.infinity : ReadsPoint φ .infinity (0 : (shortCurve c).Point) := rfl

theorem ReadsPoint.affine {x y : F} (h : (shortCurve c).Nonsingular (φ x) (φ y)) :
    ReadsPoint φ (.affine x y) (.some (φ x) (φ y) h) := ⟨h, rfl⟩

/-- The reading of a point whose coordinates read as those of a sum. -/
theorem readsPoint_of_some {x y : F} {x' y' : K} {h : (shortCurve c).Nonsingular x' y'} (hx : φ x = x') (hy : φ y = y') :
    ReadsPoint φ (.affine x y) (.some x' y' h) := by
  subst hx hy
  exact .affine h

/-- A point of the group is the reading of one point at most. -/
theorem FieldOps.ReadsAs.readsPoint_unique (hO : O.ReadsAs φ) {A B : Point F} {P : (shortCurve c).Point}
    (hA : ReadsPoint φ A P) (hB : ReadsPoint φ B P) : A = B := by
  cases A with
  | infinity =>
    obtain rfl : P = 0 := hA
    cases B with
    | infinity => rfl
    | affine x y =>
      obtain ⟨h, hP⟩ := hB
      cases hP
  | affine x y =>
    obtain ⟨h, rfl⟩ := hA
    cases B with
    | infinity => cases hB
    | affine x' y' =>
      obtain ⟨h', hP⟩ := hB
      obtain ⟨hx, hy⟩ := Point.some.inj hP
      rw [hO.injective hx, hO.injective hy]

variable [DecidableEq F] {b : F}

/-- Every point on the model's curve reads as a point of the group. -/
theorem FieldOps.ReadsAs.readsPoint_exists (hO : O.ReadsAs φ) (h3 : (3 : K) ≠ 0) (hb : φ b ≠ 0) {A : Point F}
    (hA : pointOnCurve O b A = true) : ∃ P : (shortCurve (φ b)).Point, ReadsPoint φ A P := by
  cases A with
  | infinity => exact ⟨0, .infinity⟩
  | affine x y => exact ⟨_, .affine (shortCurve_nonsingular hO.two_ne h3 hb ((hO.pointOnCurve_affine x y).1 hA))⟩

variable [DecidableEq K] {A B : Point F} {P Q : (shortCurve c).Point}

theorem FieldOps.ReadsAs.readsPoint_dbl (hO : O.ReadsAs φ) (hA : ReadsPoint φ A P) : ReadsPoint φ (pointDbl O A) (P + P) := by
  cases A with
  | infinity =>
    obtain rfl : P = 0 := hA
    rw [add_zero]
    exact .infinity
  | affine x y =>
    obtain ⟨h, rfl⟩ := hA
    by_cases hy : y = O.zero
    · rw [pointDbl_of_y_zero x hy, Point.add_self_of_Y_eq (by rw [shortCurve_negY, hy, hO.zero, neg_zero])]
      exact .infinity
    · have hy0 : φ y ≠ 0 := hO.ne_zero.1 hy
      have h2y : φ y - -φ y ≠ 0 := by
        rw [sub_neg_eq_add, ← two_mul]
        exact mul_ne_zero hO.two_ne hy0
      have hneg : φ y ≠ (shortCurve c).negY (φ x) (φ y) := by rwa [shortCurve_negY, ← sub_ne_zero]
      have hslope : (shortCurve c).slope (φ x) (φ x) (φ y) (φ y) = φ (tangentSlope O x y) := by
        rw [slope_of_Y_ne rfl hneg, shortCurve_negY, div_eq_iff h2y]
        simp only [shortCurve]
        linear_combination -hO.tangentSlope_eq x hy
      rw [pointDbl_of_y_ne_zero x hy rfl rfl, Point.add_self_of_Y_ne hneg]
      refine readsPoint_of_some ?_ ?_
      · rw [shortCurve_addX, hslope]
        simp only [hO.sub, hO.mul, hO.two]
        ring
      · rw [shortCurve_addY, hslope]
        simp only [hO.sub, hO.mul, hO.two]
        ring

theorem FieldOps.ReadsAs.readsPoint_add (hO : O.ReadsAs φ) (hA : ReadsPoint φ A P) (hB : ReadsPoint φ B Q) :
    ReadsPoint φ (pointAdd O A B) (P + Q) := by
  cases A with
  | infinity =>
    obtain rfl : P = 0 := hA
    rw [zero_add]
    exact hB
  | affine x1 y1 =>
    cases B with
    | infinity =>
      obtain rfl : Q = 0 := hB
      rw [add_zero]
      exact hA
    | affine x2 y2 =>
      obtain ⟨h1, rfl⟩ := hA
      obtain ⟨h2, rfl⟩ := hB
      by_cases hx : x1 = x2
      · subst hx
        by_cases hy : y1 = y2
        · subst hy
          rw [pointAdd_self]
          exact hO.readsPoint_dbl (.affine h1)
        · have hY : φ y1 = (shortCurve c).negY (φ x1) (φ y2) :=
            (Y_eq_of_X_eq h1.left h2.left rfl).resolve_left (hO.injective.ne hy)
          rw [pointAdd_of_y_ne x1 hy, Point.add_of_Y_eq rfl hY]
          exact .infinity
      · have hX : φ x1 ≠ φ x2 := hO.injective.ne hx
        have hslope : (shortCurve c).slope (φ x1) (φ x2) (φ y1) (φ y2) = φ (chordSlope O x1 y1 x2 y2) := by
          rw [slope_of_X_ne hX, div_eq_iff (sub_ne_zero.2 hX)]
          linear_combination hO.chordSlope_eq y1 y2 hx
        rw [pointAdd_of_x_ne y1 y2 hx, chordPoint, Point.add_of_X_ne hX]
        refine readsPoint_of_some ?_ ?_
        · rw [shortCurve_addX, hslope]
          simp only [hO.sub, hO.mul]
        · rw [shortCurve_addY, hslope]
          simp only [hO.sub, hO.mul]

/-! ## Multiples -/

theorem FieldOps.ReadsAs.readsPoint_mul (hO : O.ReadsAs φ) (hA : ReadsPoint φ A P) (n : Nat) :
    ReadsPoint φ (pointMul O A n) (n • P) := by
  induction n with
  | zero =>
    rw [zero_nsmul]
    exact .infinity
  | succ n ih =>
    rw [succ_nsmul]
    exact hO.readsPoint_add ih hA

/-- From the multiple by `m` the ladder over the low `n` bits of `k` appends these bits to `m`. -/
theorem FieldOps.ReadsAs.readsPoint_ladderFrom (hO : O.ReadsAs φ) (hA : ReadsPoint φ A P) (k n m : Nat) {R : Point F}
    (hR : ReadsPoint φ R (m • P)) : ReadsPoint φ (ladderFrom O A k n R) ((m * 2 ^ n + k % 2 ^ n) • P) := by
  induction n generalizing m R with
  | zero =>
    rw [pow_zero, mul_one, Nat.mod_one, add_zero]
    exact hR
  | succ n ih =>
    have hbit : m * 2 ^ (n + 1) + k % 2 ^ (n + 1) = (2 * m + (k.testBit n).toNat) * 2 ^ n + k % 2 ^ n := by
      rw [Nat.mod_pow_succ, ← Nat.toNat_testBit]
      ring
    have hD : ReadsPoint φ (pointDbl O R) ((2 * m) • P) := by
      rw [two_mul, add_nsmul]
      exact hO.readsPoint_dbl hR
    rw [hbit, ladderFrom]
    apply ih
    cases k.testBit n with
    | false => exact hD
    | true =>
      rw [Bool.toNat_true, succ_nsmul]
      exact hO.readsPoint_add hD hA

/-- The ladder is the repeated sum, for a scalar its iterations cover. -/
theorem FieldOps.ReadsAs.ladder_eq_pointMul (hO : O.ReadsAs φ) (h3 : (3 : K) ≠ 0) (hb : φ b ≠ 0)
    (hA : pointOnCurve O b A = true) {k : Nat} (hk : k < 2 ^ Config.SMUL_ITER) : ladder O A k = pointMul O A k := by
  obtain ⟨P, hP⟩ := hO.readsPoint_exists h3 hb hA
  have hzero : ReadsPoint φ .infinity (0 • P) := by
    rw [zero_nsmul]
    exact .infinity
  have hladder := hO.readsPoint_ladderFrom hP k Config.SMUL_ITER 0 hzero
  rw [zero_mul, zero_add, Nat.mod_eq_of_lt hk] at hladder
  exact hO.readsPoint_unique hladder (hO.readsPoint_mul hP k)

end

/-! ## The two curves -/

theorem groupOrder_lt : groupOrder < 2 ^ Config.SMUL_ITER := by decide

theorem three_ne_zero_Zp : (3 : Zp) ≠ 0 := by
  have h : toZp (fpOfNat 3) ≠ toZp fpZero := toZp_injective.ne (by decide)
  simpa using h

theorem toZp_curveB_ne_zero : toZp curveB ≠ 0 := mt toZp_eq_zero.1 (by decide)

theorem three_ne_zero_K2 : (3 : K2) ≠ 0 := fun h =>
  three_ne_zero_Zp (by simpa only [QuadraticAlgebra.re_ofNat, QuadraticAlgebra.re_zero] using congrArg QuadraticAlgebra.re h)

theorem toK2_twistB_ne_zero : toK2 twistB ≠ 0 := mt toK2_eq_zero.1 (by decide)

theorem ladder_eq_mul1 {A : G1Point} (hA : onCurve1 A = true) {k : Nat} (hk : k ≤ groupOrder) : ladder fpOps A k = mul1 A k := by
  have := fact_prime_p
  exact fpOps_readsAs.ladder_eq_pointMul three_ne_zero_Zp toZp_curveB_ne_zero hA (hk.trans_lt groupOrder_lt)

theorem ladder_eq_mul2 {A : G2Point} (hA : onCurve2 A = true) {k : Nat} (hk : k ≤ groupOrder) : ladder fp2Ops A k = mul2 A k := by
  classical
  let := fieldK2
  exact fp2Ops_readsAs.ladder_eq_pointMul three_ne_zero_K2 toK2_twistB_ne_zero hA (hk.trans_lt groupOrder_lt)

theorem smul1_eq_mul1 {A : G1Point} (hA : onCurve1 A = true) (k : Nat) : smul1 A k = mul1 A (k % groupOrder) := by
  rw [smul1, scalarMul, ladder_eq_mul1 hA (Nat.mod_lt k prime_groupOrder.pos).le]

theorem smul2_eq_mul2 {A : G2Point} (hA : onCurve2 A = true) (k : Nat) : smul2 A k = mul2 A (k % groupOrder) := by
  rw [smul2, scalarMul, ladder_eq_mul2 hA (Nat.mod_lt k prime_groupOrder.pos).le]

theorem inSubgroup1_iff {A : G1Point} (hA : onCurve1 A = true) : inSubgroup1 A = true ↔ mul1 A groupOrder = .infinity := by
  rw [inSubgroup1, inSubgroup, ladder_eq_mul1 hA le_rfl, pointIsId_eq_decide, decide_eq_true_eq]

theorem inSubgroup2_iff {A : G2Point} (hA : onCurve2 A = true) : inSubgroup2 A = true ↔ mul2 A groupOrder = .infinity := by
  rw [inSubgroup2, inSubgroup, ladder_eq_mul2 hA le_rfl, pointIsId_eq_decide, decide_eq_true_eq]

/-- Settles O26: the commands write the ladder's point and the tests read it, and on the curve the ladder is the repeated sum. -/
theorem scalarMultiplicationIsRepeatedAddition : Obligations.ScalarMultiplicationIsRepeatedAddition := by
  refine ⟨?g1, ?g2, fun _ => inSubgroup1_iff, fun _ => inSubgroup2_iff⟩
  case g1 =>
    intro s rd ra rb A k hrd hA hk hcurve
    rw [execG1Smul_of_holds hrd hA hk, smul1_eq_mul1 hcurve]
  case g2 =>
    intro s rd ra rb A k hrd hA hk hcurve
    rw [execG2Smul_of_holds hrd hA hk, smul2_eq_mul2 hcurve]

end Sys2Proof.Machine
end

section
/-! SUPPORT. Two runs of a command compared (`43_scalar_mult.md` R266, `70_reset_and_hazards.md` R417): from states that differ at
most in the values held, each shared operation fetches, raises and writes alike. -/

namespace Sys2Proof.Machine

/-! ## What the runs agree in -/

/-- The states differ at most in the values held, and in the truth flag if the command is a predicate. -/
def State.agrees (test : Bool) (s t : State) : Prop :=
  s.sameKinds { t with status := { t.status with t := s.status.t } } ∧ (test = false → s.status.t = t.status.t)

/-- Both computations succeed, with values in the relation, or both raise the same exception. -/
def SameOutcome {α β : Type} (R : α → β → Prop) : Except Exn α → Except Exn β → Prop
  | .ok a, .ok b => R a b
  | .error x, .error y => x = y
  | .ok _, .error _ | .error _, .ok _ => False

/-- Both commands complete, in states that agree. -/
def EndsAgree (test : Bool) (r r' : Result) : Prop := ∃ s t, r = .next s ∧ r' = .next t ∧ s.agrees test t

section
variable {α β γ δ : Type} {R : α → β → Prop} {S : γ → δ → Prop}

theorem SameOutcome.ok {a : α} {b : β} (h : R a b) : SameOutcome R (.ok a) (.ok b) := h

theorem SameOutcome.error (x : Exn) : SameOutcome R (.error x) (.error x) := rfl

theorem sameOutcome_iff {x : Except Exn α} {y : Except Exn β} :
    SameOutcome R x y ↔ (∃ a b, x = .ok a ∧ y = .ok b ∧ R a b) ∨ ∃ e, x = .error e ∧ y = .error e := by
  cases x <;> cases y <;> simp [SameOutcome, eq_comm]

theorem SameOutcome.bind {x : Except Exn α} {y : Except Exn β} {f : α → Except Exn γ} {g : β → Except Exn δ}
    (h : SameOutcome R x y) (hfg : ∀ a b, R a b → SameOutcome S (f a) (g b)) : SameOutcome S (x >>= f) (y >>= g) := by
  obtain ⟨a, b, rfl, rfl, hab⟩ | ⟨e, rfl, rfl⟩ := sameOutcome_iff.1 h
  · exact hfg a b hab
  · exact .error e

/-- A computation that does not look at the state. -/
theorem SameOutcome.bind_same (x : Except Exn α) {f : α → Except Exn γ} {g : α → Except Exn δ}
    (hfg : ∀ a, SameOutcome S (f a) (g a)) : SameOutcome S (x >>= f) (x >>= g) := by
  cases x with
  | ok a => exact hfg a
  | error x => exact .error x

end

/-! ## Writes -/

theorem map_set_congr {α β : Type} {n : Nat} {v w : Vector α n} {f : α → β} (h : v.map f = w.map f) (i : Fin n) {a b : α}
    (hab : f a = f b) : (v.set i a).map f = (w.set i b).map f := by
  rw [Vector.map_set, Vector.map_set, h, hab]

section
variable {s t u v : State} {test : Bool}

theorem State.sameKinds.agrees (h : u.sameKinds v) : u.agrees test v := by
  have hstatus : u.status.t = v.status.t := by
    obtain ⟨-, -, -, -, -, -, -, h, -⟩ := h
    rw [h]
  refine ⟨?_, fun _ => hstatus⟩
  rw [hstatus]
  exact h

theorem State.sameKinds.setE (h : s.sameKinds t) (i : Fin Config.NE) {a b : EVal} (hab : a.tag = b.tag) :
    (s.setE i a).sameKinds (t.setE i b) := by
  obtain ⟨he, hrest⟩ := h
  exact ⟨map_set_congr he i hab, hrest⟩

theorem State.sameKinds.setP (h : s.sameKinds t) (i : Fin Config.NP) (A B : G1Point) :
    (s.setP i A).sameKinds (t.setP i B) := by
  obtain ⟨he, hp, hrest⟩ := h
  exact ⟨he, map_set_congr hp i rfl, hrest⟩

theorem State.sameKinds.setQ (h : s.sameKinds t) (i : Fin Config.NQ) (A B : G2Point) :
    (s.setQ i A).sameKinds (t.setQ i B) := by
  obtain ⟨he, hp, hq, hrest⟩ := h
  exact ⟨he, hp, map_set_congr hq i rfl, hrest⟩

theorem State.sameKinds.clearK (h : s.sameKinds t) (i : Fin Config.NK) : (s.setK i none).sameKinds (t.setK i none) := by
  obtain ⟨he, hp, hq, hk, hrest⟩ := h
  exact ⟨he, hp, hq, map_set_congr hk i rfl, hrest⟩

theorem State.sameKinds.setLists (h : s.sameKinds t) {a a' : List G1Point} {b b' : List G2Point} (ha : a.length = a'.length)
    (hb : b.length = b'.length) : (s.setLists a b).sameKinds (t.setLists a' b') := by
  obtain ⟨he, hp, hq, hk, -, -, hrest⟩ := h
  exact ⟨he, hp, hq, hk, ha, hb, hrest⟩

theorem State.sameKinds.storeBytes (h : s.sameKinds t) {B B' : List Byte} (hB : B.length = B'.length) :
    (storeBytes s B).sameKinds (storeBytes t B') := by
  obtain ⟨he, hp, hq, hk, h1, h2, -, hrest⟩ := h
  exact ⟨he, hp, hq, hk, h1, h2, congrArg (BitVec.ofNat 9) hB, hrest⟩

theorem State.sameKinds.erase (h : s.sameKinds t) : s.erase.sameKinds t.erase := by
  obtain ⟨-, -, -, -, -, -, -, hrest⟩ := h
  exact ⟨rfl, rfl, rfl, rfl, rfl, rfl, rfl, hrest⟩

/-- A predicate writes its own truth flag in each run. -/
theorem State.sameKinds.setT (h : s.sameKinds t) (b b' : Bool) : (s.setT b).agrees true (t.setT b') := by
  obtain ⟨he, hp, hq, hk, h1, h2, hio, hst, hrest⟩ := h
  refine ⟨⟨he, hp, hq, hk, h1, h2, hio, ?_, hrest⟩, nofun⟩
  rw [State.setT_status, State.setT_status, hst]

/-! ## Ends -/

theorem State.agrees.completed (h : u.agrees test v) : u.completed.agrees test v.completed := by
  obtain ⟨⟨he, hp, hq, hk, h1, h2, hio, hst, herr, hcmd, hen, hint⟩, ht⟩ := h
  refine ⟨⟨he, hp, hq, hk, h1, h2, hio, ?_, herr, hcmd, hen, congrArg (· ||| intDone) hint⟩, ht⟩
  exact congrArg (fun st : Status => { st with busy := false, done := true }) hst

theorem State.sameKinds.raised (h : s.sameKinds t) (x : Exn) : (s.raised x).sameKinds (t.raised x) := by
  obtain ⟨he, hp, hq, hk, h1, h2, hio, hst, -, hcmd, hen, hint⟩ := h
  refine ⟨he, hp, hq, hk, h1, h2, hio, ?_, rfl, hcmd, hen, congrArg (· ||| intDone ||| intErr) hint⟩
  exact congrArg (fun st : Status => { st with busy := false, done := true, err := true }) hst

/-- Effects with the same outcome end in states that agree. -/
theorem State.sameKinds.finish (h : s.sameKinds t) {e e' : Except Exn State} (he : SameOutcome (State.agrees test) e e') :
    EndsAgree test (s.finish e) (t.finish e') := by
  obtain ⟨u, v, rfl, rfl, huv⟩ | ⟨x, rfl, rfl⟩ := sameOutcome_iff.1 he
  · exact ⟨_, _, rfl, rfl, huv.completed⟩
  · exact ⟨_, _, rfl, rfl, (h.raised x).agrees⟩

end

/-! ## Fetches -/

/-- The commands that read with `accepts` take the values of one tag. -/
def AcceptsTag {α : Type} (accepts : EVal → Option α) (n : Nat) : Prop := ∀ v, (accepts v).isSome = decide (v.tag = n)

theorem acceptsTag_fp : AcceptsTag EVal.asFp 1 := fun v => by cases v <;> rfl

theorem acceptsTag_fp2 : AcceptsTag EVal.asFp2 2 := fun v => by cases v <;> rfl

theorem acceptsTag_fp6 : AcceptsTag EVal.asFp6 3 := fun v => by cases v <;> rfl

theorem acceptsTag_fp12 : AcceptsTag EVal.asFp12 4 := fun v => by cases v <;> rfl

theorem acceptsTag_gt : AcceptsTag EVal.asGt 5 := fun v => by cases v <;> rfl

theorem acceptsTag_mlo : AcceptsTag EVal.asMlo 6 := fun v => by cases v <;> rfl

theorem EVal.gt_tag (a : Fp12) : (EVal.gt a).tag = 5 := rfl

theorem EVal.eq_empty_iff (v : EVal) : v = .empty ↔ v.tag = 0 := by cases v <;> simp [EVal.tag]

theorem getElem_map_congr {α β : Type} {n : Nat} {v w : Vector α n} {f : α → β} (h : v.map f = w.map f) (i : Fin n) :
    f v[i] = f w[i] := by
  simpa using congrArg (fun u : Vector β n => u[i]) h

/-- Two fetches that both succeed, or raise alike; of the values nothing is said. -/
abbrev SameFetch {α : Type} (x y : Except Exn α) : Prop := SameOutcome (fun _ _ => True) x y

theorem getValid_same {α : Type} {r r' : Option α} (h : r.isSome = r'.isSome) (w : Operand) :
    SameFetch (getValid r w) (getValid r' w) := by
  cases r with
  | none =>
    cases r' with
    | none => exact .error _
    | some b => cases h
  | some a =>
    cases r' with
    | none => cases h
    | some b => exact .ok trivial

section
variable {s t : State}

theorem State.sameKinds.getP (h : s.sameKinds t) (i : Fin Config.NP) (w : Operand) : SameFetch (getP s i w) (getP t i w) := by
  obtain ⟨-, hp, -⟩ := h
  exact getValid_same (getElem_map_congr hp i) w

theorem State.sameKinds.getQ (h : s.sameKinds t) (i : Fin Config.NQ) (w : Operand) : SameFetch (getQ s i w) (getQ t i w) := by
  obtain ⟨-, -, hq, -⟩ := h
  exact getValid_same (getElem_map_congr hq i) w

theorem State.sameKinds.getK (h : s.sameKinds t) (i : Fin Config.NK) (w : Operand) : SameFetch (getK s i w) (getK t i w) := by
  obtain ⟨-, -, -, hk, -⟩ := h
  exact getValid_same (getElem_map_congr hk i) w

theorem State.sameKinds.tag_eq (h : s.sameKinds t) (i : EIdx) : s.eregs[eIdx i].tag = t.eregs[eIdx i].tag := by
  obtain ⟨he, -⟩ := h
  exact getElem_map_congr he (eIdx i)

theorem State.sameKinds.getE {α : Type} {accepts : EVal → Option α} {n : Nat} (h : s.sameKinds t)
    (haccepts : AcceptsTag accepts n) (i : EIdx) (w : Operand) : SameFetch (getE accepts s i w) (getE accepts t i w) := by
  have htag := h.tag_eq i
  have hsome : (accepts s.eregs[eIdx i]).isSome = (accepts t.eregs[eIdx i]).isSome := by
    rw [haccepts, haccepts, htag]
  simp only [Machine.getE, EVal.eq_empty_iff, htag]
  split
  · exact .error _
  · generalize accepts s.eregs[eIdx i] = x at hsome ⊢
    generalize accepts t.eregs[eIdx i] = y at hsome ⊢
    cases x with
    | none =>
      cases y with
      | none => exact .error _
      | some b => cases hsome
    | some a =>
      cases y with
      | none => cases hsome
      | some b => exact .ok trivial

end

/-! ## The shared operations -/

section
variable {s t : State} {test : Bool}

section
variable {α : Type} {accepts : EVal → Option α} {n : Nat} {tag : α → EVal} {rd ra rb : EIdx}

theorem State.sameKinds.eBinary (h : s.sameKinds t) (haccepts : AcceptsTag accepts n) (htag : ∀ a b, (tag a).tag = (tag b).tag)
    (f : α → α → α) : EndsAgree test (eBinary accepts tag f rd ra rb s) (eBinary accepts tag f rd ra rb t) :=
  h.finish ((h.getE haccepts ra .ra).bind fun _ _ _ => (h.getE haccepts rb .rb).bind fun _ _ _ =>
    .ok (h.setE _ (htag _ _)).agrees)

theorem State.sameKinds.eUnary (h : s.sameKinds t) (haccepts : AcceptsTag accepts n) (htag : ∀ a b, (tag a).tag = (tag b).tag)
    (f : α → α) : EndsAgree test (eUnary accepts tag f rd ra s) (eUnary accepts tag f rd ra t) :=
  h.finish ((h.getE haccepts ra .ra).bind fun _ _ _ => .ok (h.setE _ (htag _ _)).agrees)

theorem State.sameKinds.eTest2 (h : s.sameKinds t) (haccepts : AcceptsTag accepts n) (f : α → α → Bool) :
    EndsAgree true (eTest2 accepts f ra rb s) (eTest2 accepts f ra rb t) :=
  h.finish ((h.getE haccepts ra .ra).bind fun _ _ _ => (h.getE haccepts rb .rb).bind fun _ _ _ => .ok (h.setT _ _))

theorem State.sameKinds.eTest (h : s.sameKinds t) (haccepts : AcceptsTag accepts n) (f : α → Bool) :
    EndsAgree true (eTest accepts f ra s) (eTest accepts f ra t) :=
  h.finish ((h.getE haccepts ra .ra).bind fun _ _ _ => .ok (h.setT _ _))

theorem State.sameKinds.eConst (h : s.sameKinds t) (v : EVal) : EndsAgree test (eConst v rd s) (eConst v rd t) :=
  h.finish (.ok (h.setE _ rfl).agrees)

/-- Every string of one encoding has the same length, so the lengths of the buffers agree. -/
theorem State.sameKinds.eStore (h : s.sameKinds t) (haccepts : AcceptsTag accepts n) {enc : α → List Byte} {m : Nat}
    (henc : ∀ a, (enc a).length = m) : EndsAgree test (eStore accepts enc ra s) (eStore accepts enc ra t) :=
  h.finish ((h.getE haccepts ra .ra).bind fun a b _ => .ok (h.storeBytes ((henc a).trans (henc b).symm)).agrees)

end

section
variable {rd ra rb : PIdx}

theorem State.sameKinds.pBinary (h : s.sameKinds t) (f : G1Point → G1Point → G1Point) :
    EndsAgree test (pBinary f rd ra rb s) (pBinary f rd ra rb t) :=
  h.finish (.bind_same _ fun d => .bind_same _ fun a => .bind_same _ fun b => (h.getP a .ra).bind fun _ _ _ =>
    (h.getP b .rb).bind fun _ _ _ => .ok (h.setP d _ _).agrees)

theorem State.sameKinds.pUnary (h : s.sameKinds t) (f : G1Point → G1Point) :
    EndsAgree test (pUnary f rd ra s) (pUnary f rd ra t) :=
  h.finish (.bind_same _ fun d => .bind_same _ fun a => (h.getP a .ra).bind fun _ _ _ => .ok (h.setP d _ _).agrees)

theorem State.sameKinds.pTest2 (h : s.sameKinds t) (f : G1Point → G1Point → Bool) :
    EndsAgree true (pTest2 f ra rb s) (pTest2 f ra rb t) :=
  h.finish (.bind_same _ fun a => .bind_same _ fun b => (h.getP a .ra).bind fun _ _ _ => (h.getP b .rb).bind fun _ _ _ =>
    .ok (h.setT _ _))

theorem State.sameKinds.pTest (h : s.sameKinds t) (f : G1Point → Bool) : EndsAgree true (pTest f ra s) (pTest f ra t) :=
  h.finish (.bind_same _ fun a => (h.getP a .ra).bind fun _ _ _ => .ok (h.setT _ _))

theorem State.sameKinds.pConst (h : s.sameKinds t) (A : G1Point) : EndsAgree test (pConst A rd s) (pConst A rd t) :=
  h.finish (.bind_same _ fun d => .ok (h.setP d A A).agrees)

theorem State.sameKinds.pStore (h : s.sameKinds t) {enc : G1Point → List Byte} {m : Nat} (henc : ∀ A, (enc A).length = m) :
    EndsAgree test (pStore enc ra s) (pStore enc ra t) :=
  h.finish (.bind_same _ fun a => (h.getP a .ra).bind fun A B _ =>
    .ok (h.storeBytes ((henc A).trans (henc B).symm)).agrees)

end

section
variable {rd ra rb : QIdx}

theorem State.sameKinds.qBinary (h : s.sameKinds t) (f : G2Point → G2Point → G2Point) :
    EndsAgree test (qBinary f rd ra rb s) (qBinary f rd ra rb t) :=
  h.finish (.bind_same _ fun d => .bind_same _ fun a => .bind_same _ fun b => (h.getQ a .ra).bind fun _ _ _ =>
    (h.getQ b .rb).bind fun _ _ _ => .ok (h.setQ d _ _).agrees)

theorem State.sameKinds.qUnary (h : s.sameKinds t) (f : G2Point → G2Point) :
    EndsAgree test (qUnary f rd ra s) (qUnary f rd ra t) :=
  h.finish (.bind_same _ fun d => .bind_same _ fun a => (h.getQ a .ra).bind fun _ _ _ => .ok (h.setQ d _ _).agrees)

theorem State.sameKinds.qTest2 (h : s.sameKinds t) (f : G2Point → G2Point → Bool) :
    EndsAgree true (qTest2 f ra rb s) (qTest2 f ra rb t) :=
  h.finish (.bind_same _ fun a => .bind_same _ fun b => (h.getQ a .ra).bind fun _ _ _ => (h.getQ b .rb).bind fun _ _ _ =>
    .ok (h.setT _ _))

theorem State.sameKinds.qTest (h : s.sameKinds t) (f : G2Point → Bool) : EndsAgree true (qTest f ra s) (qTest f ra t) :=
  h.finish (.bind_same _ fun a => (h.getQ a .ra).bind fun _ _ _ => .ok (h.setT _ _))

theorem State.sameKinds.qConst (h : s.sameKinds t) (A : G2Point) : EndsAgree test (qConst A rd s) (qConst A rd t) :=
  h.finish (.bind_same _ fun d => .ok (h.setQ d A A).agrees)

theorem State.sameKinds.qStore (h : s.sameKinds t) {enc : G2Point → List Byte} {m : Nat} (henc : ∀ A, (enc A).length = m) :
    EndsAgree test (qStore enc ra s) (qStore enc ra t) :=
  h.finish (.bind_same _ fun a => (h.getQ a .ra).bind fun A B _ =>
    .ok (h.storeBytes ((henc A).trans (henc B).symm)).agrees)

end

/-! ## The commands with a meaning of their own -/

theorem State.sameKinds.execEMov (h : s.sameKinds t) (rd ra : EIdx) : EndsAgree test (execEMov rd ra s) (execEMov rd ra t) := by
  refine h.finish ?_
  simp only [EVal.eq_empty_iff, h.tag_eq ra]
  split
  · exact .error _
  · exact .ok (h.setE _ (h.tag_eq ra)).agrees

theorem State.sameKinds.execGtExp (h : s.sameKinds t) (rd ra : EIdx) (rb : KIdx) :
    EndsAgree test (execGtExp rd ra rb s) (execGtExp rd ra rb t) :=
  h.finish (.bind_same _ fun b => (h.getE acceptsTag_gt ra .ra).bind fun _ _ _ => (h.getK b .rb).bind fun _ _ _ =>
    .ok (h.setE (eIdx rd) ((EVal.gt_tag _).trans (EVal.gt_tag _).symm)).agrees)

theorem State.sameKinds.execGtToFp12 (h : s.sameKinds t) (rd ra : EIdx) :
    EndsAgree test (execGtToFp12 rd ra s) (execGtToFp12 rd ra t) :=
  h.eUnary (tag := .fp12) acceptsTag_gt (fun _ _ => rfl) id

theorem State.sameKinds.execG1Smul (h : s.sameKinds t) (rd ra : PIdx) (rb : KIdx) :
    EndsAgree test (execG1Smul rd ra rb s) (execG1Smul rd ra rb t) :=
  h.finish (.bind_same _ fun d => .bind_same _ fun a => .bind_same _ fun b => (h.getP a .ra).bind fun _ _ _ =>
    (h.getK b .rb).bind fun _ _ _ => .ok (h.setP d _ _).agrees)

theorem State.sameKinds.execG2Smul (h : s.sameKinds t) (rd ra : QIdx) (rb : KIdx) :
    EndsAgree test (execG2Smul rd ra rb s) (execG2Smul rd ra rb t) :=
  h.finish (.bind_same _ fun d => .bind_same _ fun a => .bind_same _ fun b => (h.getQ a .ra).bind fun _ _ _ =>
    (h.getK b .rb).bind fun _ _ _ => .ok (h.setQ d _ _).agrees)

theorem State.sameKinds.execKClr (h : s.sameKinds t) (rd : KIdx) : EndsAgree test (execKClr rd s) (execKClr rd t) :=
  h.finish (.bind_same _ fun d => .ok (h.clearK d).agrees)

theorem State.sameKinds.execPcPush1 (h : s.sameKinds t) (ra : PIdx) : EndsAgree test (execPcPush1 ra s) (execPcPush1 ra t) := by
  have hlists := h
  obtain ⟨-, -, -, -, h1, h2, -⟩ := hlists
  refine h.finish (.bind_same _ fun a => (h.getP a .ra).bind fun A B _ => ?_)
  rw [h1]
  split
  · exact .error _
  · refine .ok (h.setLists ?_ h2).agrees
    rw [List.length_append, List.length_append, h1]
    rfl

theorem State.sameKinds.execPcPush2 (h : s.sameKinds t) (ra : QIdx) : EndsAgree test (execPcPush2 ra s) (execPcPush2 ra t) := by
  have hlists := h
  obtain ⟨-, -, -, -, h1, h2, -⟩ := hlists
  refine h.finish (.bind_same _ fun a => (h.getQ a .ra).bind fun A B _ => ?_)
  rw [h2]
  split
  · exact .error _
  · refine .ok (h.setLists h1 ?_).agrees
    rw [List.length_append, List.length_append, h2]
    rfl

end

end Sys2Proof.Machine
end

section
/-! The noninterference of a command on status and time (`43_scalar_mult.md` R266, `70_reset_and_hazards.md` R417, R418). -/

namespace Sys2Proof.Machine

/-- A row that names an exception other than the three that read kinds only. -/
theorem CommandFacts.raisesByKindOnly.elim {f : CommandFacts} (h : f.raisesByKindOnly) {P : Prop} (rows : List (Nat × Nat))
    (hrows : f.raises = rows) (hvalue : ∃ c ∈ rows, ¬ (c.1 = 0x11 ∨ c.1 = 0x12 ∨ c.1 = 0x13)) : P := by
  obtain ⟨c, hc, hkind⟩ := hvalue
  exact absurd (h c (hrows ▸ hc)) hkind

/-- A command whose row names no exception that depends on a value ends alike in states that differ in values only. -/
theorem exec_agrees (i : Instr) {s t : State} (hkind : (commandFacts i).raisesByKindOnly) (h : s.sameKinds t) :
    EndsAgree (commandFacts i).test (exec i s) (exec i t) := by
  cases i with
  | nop => exact h.finish (.ok h.agrees)
  | zeroize => exact h.finish (.ok h.erase.agrees)
  | eMov rd ra => exact h.execEMov rd ra
  | fpAdd _ _ _ | fpSub _ _ _ | fpMul _ _ _ => exact h.eBinary acceptsTag_fp (fun _ _ => rfl) _
  | fp2Add _ _ _ | fp2Sub _ _ _ | fp2Mul _ _ _ => exact h.eBinary acceptsTag_fp2 (fun _ _ => rfl) _
  | fp6Add _ _ _ | fp6Sub _ _ _ | fp6Mul _ _ _ => exact h.eBinary acceptsTag_fp6 (fun _ _ => rfl) _
  | fp12Add _ _ _ | fp12Sub _ _ _ | fp12Mul _ _ _ => exact h.eBinary acceptsTag_fp12 (fun _ _ => rfl) _
  | gtMul _ _ _ => exact h.eBinary acceptsTag_gt (fun _ _ => rfl) _
  | mloMul _ _ _ => exact h.eBinary acceptsTag_mlo (fun _ _ => rfl) _
  | fpNeg _ _ | fpSqr _ _ => exact h.eUnary acceptsTag_fp (fun _ _ => rfl) _
  | fp2Neg _ _ | fp2Sqr _ _ => exact h.eUnary acceptsTag_fp2 (fun _ _ => rfl) _
  | fp6Neg _ _ | fp6Sqr _ _ => exact h.eUnary acceptsTag_fp6 (fun _ _ => rfl) _
  | fp12Neg _ _ | fp12Sqr _ _ => exact h.eUnary acceptsTag_fp12 (fun _ _ => rfl) _
  | gtInv _ _ => exact h.eUnary acceptsTag_gt (fun _ _ => rfl) _
  | fpEq _ _ => exact h.eTest2 acceptsTag_fp _
  | fp2Eq _ _ => exact h.eTest2 acceptsTag_fp2 _
  | fp6Eq _ _ => exact h.eTest2 acceptsTag_fp6 _
  | fp12Eq _ _ => exact h.eTest2 acceptsTag_fp12 _
  | gtEq _ _ => exact h.eTest2 acceptsTag_gt _
  | gtIsOne _ => exact h.eTest acceptsTag_gt _
  | fpZero _ | fpOne _ | fp2Zero _ | fp2One _ | fp6Zero _ | fp6One _ | fp12Zero _ | fp12One _ | gtOne _ | mloOne _ =>
    exact h.eConst _
  | fpSt _ => exact h.eStore acceptsTag_fp encFp_length
  | fp2St _ => exact h.eStore acceptsTag_fp2 encFp2_length
  | fp6St _ => exact h.eStore acceptsTag_fp6 encFp6_length
  | fp12St _ => exact h.eStore acceptsTag_fp12 encFp12_length
  | gtSt _ => exact h.eStore acceptsTag_gt encFp12_length
  | gtExp rd ra rb => exact h.execGtExp rd ra rb
  | gtToFp12 rd ra => exact h.execGtToFp12 rd ra
  | g1Add _ _ _ => exact h.pBinary _
  | g1Dbl _ _ | g1Neg _ _ | g1Mov _ _ => exact h.pUnary _
  | g1IsOnCurve _ | g1IsId _ => exact h.pTest _
  | g1Eq _ _ => exact h.pTest2 _
  | g1SetId _ | g1Gen _ => exact h.pConst _
  | g1St _ => exact h.pStore encG1_length
  | g1Stc _ => exact h.pStore encG1C_length
  | g1Smul rd ra rb => exact h.execG1Smul rd ra rb
  | g2Add _ _ _ => exact h.qBinary _
  | g2Dbl _ _ | g2Neg _ _ | g2Mov _ _ => exact h.qUnary _
  | g2IsOnCurve _ | g2IsId _ => exact h.qTest _
  | g2Eq _ _ => exact h.qTest2 _
  | g2SetId _ | g2Gen _ => exact h.qConst _
  | g2St _ => exact h.qStore encG2_length
  | g2Stc _ => exact h.qStore encG2C_length
  | g2Smul rd ra rb => exact h.execG2Smul rd ra rb
  | kClr rd => exact h.execKClr rd
  | pcClr => exact h.finish (.ok (h.setLists rfl rfl).agrees)
  | pcPush1 ra => exact h.execPcPush1 ra
  | pcPush2 ra => exact h.execPcPush2 ra
  | fpInv _ _ | fp2Inv _ _ | fp6Inv _ _ | fp12Inv _ _ | finalExp _ _ => exact hkind.elim raisesInverse rfl (by decide)
  | fpLd _ | fp2Ld _ | fp6Ld _ | fp12Ld _ => exact hkind.elim raisesFieldLoad rfl (by decide)
  | kLd _ => exact hkind.elim raisesKLoad rfl (by decide)
  | g1Ld _ | g1Ldc _ | g2Ld _ | g2Ldc _ => exact hkind.elim raisesPointLoad rfl (by decide)
  | g1ChkSub _ | g2ChkSub _ => exact hkind.elim raisesChkSub rfl (by decide)
  | miller _ _ _ | pair _ _ _ => exact hkind.elim raisesMiller rfl (by decide)
  | pcRun => exact hkind.elim raisesPcRun rfl (by decide)

/-- The time reads the opcode, the list lengths and the error latch of the completion, in which the two runs agree. -/
theorem latency_eq_of_sameKinds {i : Instr} {s t : State} (hdec : decode s.cmd = .ok i)
    (hkind : (commandFacts i).raisesByKindOnly) (h : s.sameKinds t) : latency s = latency t := by
  obtain ⟨s', t', hs, ht, hagree, -⟩ := exec_agrees i hkind h
  obtain ⟨-, -, -, -, -, -, -, hstatus, herrinfo, -⟩ := hagree
  obtain ⟨-, -, -, -, h1, h2, -, -, -, hcmd, -⟩ := h
  have herr : s'.status.err = t'.status.err := by rw [hstatus]
  rw [latency_of_completion ((completeCommand_ok hdec).trans hs),
    latency_of_completion ((completeCommand_ok (hcmd ▸ hdec)).trans ht), herr, herrinfo, h1, h2, hcmd]

/-! ## Normal completion -/

theorem latency_of_normal {s t : State} (h : completeCommand s = .next t) (herr : t.status.err = false) :
    latency s = latNormal s.cmd s.l1.length s.l2.length := by
  rw [latency_of_completion h, herr]
  rfl

/-- A command that completes normally was decoded. -/
theorem decode_of_normal {s t : State} (h : completeCommand s = .next t) (herr : t.status.err = false) :
    ∃ i, decode s.cmd = .ok i ∧ exec i s = .next t := by
  cases hdec : decode s.cmd with
  | error e =>
    rw [completeCommand_error hdec] at h
    cases h
    cases herr
  | ok i => exact ⟨i, rfl, (completeCommand_ok hdec).symm.trans h⟩

theorem eq_pcRun_of_opcode {w : Word} {i : Instr} (hdec : decode w = .ok i) (hop : opcodeField w = 0xA3) : i = .pcRun := by
  obtain ⟨row, hrow, hok⟩ := decode_ok hdec
  rw [hop] at hrow
  cases hrow
  obtain ⟨-, -, hbuild⟩ := decodeRow_ok.1 hok
  exact hbuild.symm

/-- `PC.RUN` completes normally only with lists of one length (`45_pairing_check.md` R300). -/
theorem execPcRun_length_eq {s t : State} (h : execPcRun s = .next t) (herr : t.status.err = false) :
    s.l1.length = s.l2.length := by
  obtain ⟨u, hu, -⟩ | ⟨x, -, rfl⟩ := State.finish_next.1 h
  · obtain ⟨b, hb, -⟩ := bind_ok.1 hu
    by_contra hne
    rw [pairingCheck, if_pos hne] at hb
    cases hb
  · cases herr

theorem list_lengths_eq_of_normal {s t : State} (h : completeCommand s = .next t) (herr : t.status.err = false)
    (hop : opcodeField s.cmd = 0xA3) : s.l1.length = s.l2.length := by
  obtain ⟨i, hdec, hexec⟩ := decode_of_normal h herr
  obtain rfl := eq_pcRun_of_opcode hdec hop
  exact execPcRun_length_eq hexec herr

theorem latNormal_of_ne {w : Word} (hop : opcodeField w ≠ 0xA3) (n1 n2 : Nat) : latNormal w n1 n2 = lat (opcodeField w) :=
  if_neg hop

theorem latNormal_congr {w w' : Word} (hop : opcodeField w = opcodeField w') (n1 n2 : Nat) :
    latNormal w n1 n2 = latNormal w' n1 n2 := by
  rw [latNormal, latNormal, hop]

/-- Settles O56: the ends of a command are compared shape by shape; a normal completion takes the time of its opcode, and for
`PC.RUN` that of the one length both lists have. -/
theorem valuesDoNotReachStatusOrTiming : Obligations.ValuesDoNotReachStatusOrTiming := by
  refine ⟨fun i s t => exec_agrees i, fun i s t => latency_eq_of_sameKinds, ?_⟩
  intro s1 s2 t1 t2 h1 h2 herr1 herr2 hop
  rw [latency_of_normal h1 herr1, latency_of_normal h2 herr2]
  refine ⟨fun hcase => ?_, latNormal_pos _ _ _⟩
  rw [latNormal_congr hop]
  by_cases hrun : opcodeField s2.cmd = 0xA3
  · have hlen : s1.l1.length = s2.l1.length := hcase.resolve_left (not_not.2 (hop.trans hrun))
    rw [← list_lengths_eq_of_normal h1 herr1 (hop.trans hrun), ← list_lengths_eq_of_normal h2 herr2 hrun, hlen]
  · rw [latNormal_of_ne hrun, latNormal_of_ne hrun]

end Sys2Proof.Machine
end

section
/-! SUPPORT. Powers by squaring are the repeated products of R124 and R282; and the pairing commands on operands that fit
(`44_pairing.md` R284 to R287): the fetches give the operands, and the rest of the command decides its end. -/

namespace Sys2Proof.Machine

/-! ## Powers -/

theorem map_iterMul {α M : Type} [Monoid M] {mul : α → α → α} {one : α} {φ : α → M}
    (hmul : ∀ a b, φ (mul a b) = φ a * φ b) (hone : φ one = 1) (a : α) (e : Nat) : φ (iterMul mul one a e) = φ a ^ e := by
  induction e with
  | zero => rw [iterMul, hone, pow_zero]
  | succ e ih => rw [iterMul, hmul, ih, pow_succ]

theorem fp12Pow_eq_iterMul (a : Fp12) (e : Nat) : fp12Pow a e = iterMul fp12Mul fp12One a e :=
  toK12_injective (by rw [toK12_pow, map_iterMul toK12_mul toK12_one])

theorem finalExp_eq_iterMul (f : Fp12) :
    finalExp f = iterMul fp12Mul fp12One f ((Config.p ^ 12 - 1) / groupOrder) := fp12Pow_eq_iterMul f _

theorem finalExp_one : finalExp fp12One = fp12One := toK12_injective (by rw [finalExp, toK12_pow, toK12_one, one_pow])

/-! ## Fetches -/

theorem accepts_mlo : Accepts EVal.asMlo .mlo := fun _ => ⟨nofun, rfl⟩

section
variable {s : State} {rd ra : EIdx} {f : Fp12}

/-- `FINALEXP` takes a Miller value and any Fp12 element alike. -/
theorem getE_asMloOrFp12_of_holds (w : Operand) (hf : s.holdsE ra (.mlo f) ∨ s.holdsE ra (.fp12 f)) :
    getE EVal.asMloOrFp12 s ra w = .ok f := by
  cases hf with
  | inl hf | inr hf =>
    rw [getE_ok, (holdsE_iff s ra _).1 hf]
    exact ⟨nofun, rfl⟩

theorem execFinalExp_of_ne (hf : s.holdsE ra (.mlo f) ∨ s.holdsE ra (.fp12 f)) (hne : f ≠ fp12Zero) :
    exec (.finalExp rd ra) s = .next (s.afterE rd (.gt (finalExp f))) :=
  State.finish_next.2 (.inl ⟨_, bind_ok.2 ⟨f, getE_asMloOrFp12_of_holds _ hf, if_neg hne⟩, (completed_setE s rd _).symm⟩)

theorem execFinalExp_of_zero (hf : s.holdsE ra (.mlo fp12Zero) ∨ s.holdsE ra (.fp12 fp12Zero)) :
    exec (.finalExp rd ra) s = .next (s.afterRaise 0x05 0 0) :=
  State.finish_next.2 (.inr ⟨.divisionByZero,
    bind_error.2 (.inr ⟨fp12Zero, getE_asMloOrFp12_of_holds _ hf, if_pos rfl⟩),
    (raised_eq_afterRaise s .divisionByZero).symm⟩)

end

section
variable {s : State} {ra : PIdx} {rb : QIdx} {A : G1Point} {B : G2Point}

/-- The fetches of `MILLER` and `PAIR` give the two points. -/
theorem fetchPoints_of_holds (hA : s.holdsP ra A) (hB : s.holdsQ rb B) (k : G1Point → G2Point → Except Exn State) :
    (do
      let a ← pIdx ra
      let b ← qIdx rb
      let A ← getP s a .ra
      let B ← getQ s b .rb
      k A B) = k A B := by
  obtain ⟨a, ha, hgetA⟩ := getP_of_holdsP hA
  obtain ⟨b, hb, hgetB⟩ := getQ_of_holdsQ hB
  rw [ha, hb]
  change (getP s a .ra >>= fun A => getQ s b .rb >>= fun B => k A B) = k A B
  rw [hgetA, hgetB]
  rfl

variable {rd : EIdx} {f : Fp12} {x : Exn}

theorem execMiller_of_ok (hA : s.holdsP ra A) (hB : s.holdsQ rb B) (h : miller A B = .ok f) :
    exec (.miller rd ra rb) s = .next (s.afterE rd (.mlo f)) :=
  State.finish_next.2 (.inl ⟨_, (fetchPoints_of_holds hA hB _).trans (bind_ok.2 ⟨f, h, rfl⟩), (completed_setE s rd _).symm⟩)

theorem execMiller_of_error (hA : s.holdsP ra A) (hB : s.holdsQ rb B) (h : miller A B = .error x) :
    exec (.miller rd ra rb) s = .next (s.afterRaise x.code x.sub x.idx) :=
  State.finish_next.2 (.inr ⟨x, (fetchPoints_of_holds hA hB _).trans (bind_error.2 (.inl h)), (raised_eq_afterRaise s x).symm⟩)

theorem pairing_of_ok (h : miller A B = .ok f) : pairing A B = .ok (finalExp f) := by rw [pairing, h]

theorem pairing_of_error (h : miller A B = .error x) : pairing A B = .error x := by rw [pairing, h]

theorem execPair_of_ok (hA : s.holdsP ra A) (hB : s.holdsQ rb B) (h : miller A B = .ok f) :
    exec (.pair rd ra rb) s = .next (s.afterE rd (.gt (finalExp f))) :=
  State.finish_next.2 (.inl ⟨_, (fetchPoints_of_holds hA hB _).trans (bind_ok.2 ⟨_, pairing_of_ok h, rfl⟩),
    (completed_setE s rd _).symm⟩)

theorem execPair_of_error (hA : s.holdsP ra A) (hB : s.holdsQ rb B) (h : miller A B = .error x) :
    exec (.pair rd ra rb) s = .next (s.afterRaise x.code x.sub x.idx) :=
  State.finish_next.2 (.inr ⟨x, (fetchPoints_of_holds hA hB _).trans (bind_error.2 (.inl (pairing_of_error h))),
    (raised_eq_afterRaise s x).symm⟩)

end

end Sys2Proof.Machine
end

section
/-! The pairing commands that read the `E` file (`44_pairing.md` R285, R287, R289 to R291, R295), each by the shared operation it is
and the repeated product its power is. -/

namespace Sys2Proof.Machine

theorem execGtExp_of_holds {s : State} {rd ra : EIdx} {rk : KIdx} {a : Fp12} {k : BitVec 256} (ha : s.holdsE ra (.gt a))
    (hk : s.holdsK rk k) : exec (.gtExp rd ra rk) s = .next (s.afterE rd (.gt (gtExp a (k.toNat % groupOrder)))) := by
  obtain ⟨b, hb, hgetK⟩ := getK_of_holdsK hk
  exact State.finish_next.2 (.inl ⟨_,
    bind_ok.2 ⟨b, hb, bind_ok.2 ⟨a, getE_of_holds accepts_gt _ ha, bind_ok.2 ⟨k, hgetK _, rfl⟩⟩⟩,
    (completed_setE s rd _).symm⟩)

theorem execGtToFp12_of_holds {s : State} {rd ra : EIdx} {a : Fp12} (ha : s.holdsE ra (.gt a)) :
    exec (.gtToFp12 rd ra) s = .next (s.afterE rd (.fp12 a)) :=
  State.finish_next.2 (.inl ⟨_, bind_ok.2 ⟨a, getE_of_holds accepts_gt _ ha, rfl⟩, (completed_setE s rd _).symm⟩)

/-- Settles O29: the product and the inverse are the shared operations at tag `GT`; the power by squaring is the repeated product. -/
theorem gtCommands : Obligations.GtCommands := by
  intro s rd ra rb a ha
  refine ⟨fun b hb => eBinary_of_holds accepts_gt fp12Mul rd ha hb, eUnary_of_holds accepts_gt fp12Inv rd ha, ?power,
    execGtToFp12_of_holds ha⟩
  case power =>
    intro rk k hk
    rw [execGtExp_of_holds ha hk, gtExp, fp12Pow_eq_iterMul]

/-- Settles O31: the check for zero decides the end of `FINALEXP`, and its power by squaring is the repeated product. -/
theorem finalExponentiation : Obligations.FinalExponentiation := by
  intro s rd ra rb f
  refine ⟨fun hf => ⟨?nonZero, ?zero⟩, fun g hf hg => eBinary_of_holds accepts_mlo fp12Mul rd hf hg⟩
  case nonZero =>
    intro hne
    rw [execFinalExp_of_ne hf hne, finalExp_eq_iterMul]
  case zero =>
    rintro rfl
    exact execFinalExp_of_zero hf

end Sys2Proof.Machine
end

section
/-! SUPPORT. Lines and steps by their equations (`44_pairing.md` R271 to R273). -/

namespace Sys2Proof.Machine

/-! ## Lines -/

/-- The coordinates of `-(λ·x)`, as integers. -/
theorem fp2Neg_scale_val (l : Fp2) (x : Fp) :
    ((fp2Neg (fp2Scale l x)).a0.val : Int) = (-((l.a0.val : Int) * x.val)) % Config.p ∧
      ((fp2Neg (fp2Scale l x)).a1.val : Int) = (-((l.a1.val : Int) * x.val)) % Config.p := by
  have hcoord (a : Fp) : ((fpNeg (fpMul a x)).val : Int) = (-((a.val : Int) * x.val)) % Config.p := by
    rw [fpNeg_val, fpMul_val, Int.natCast_emod, Nat.cast_mul]
    exact (Int.mod_modEq _ _).neg
  exact ⟨hcoord l.a0, hcoord l.a1⟩

/-! ## Steps -/

theorem dblStep_of_y_zero (x : Fp2) {y : Fp2} (hy : y = fp2Zero) : dblStep (.affine x y) = .error (.degenerateStep 0) :=
  if_pos hy

theorem dblStep_of_y_ne_zero (x : Fp2) {y l : Fp2} (hy : y ≠ fp2Zero) (hl : l = tangentSlope fp2Ops x y) :
    dblStep (.affine x y) = .ok ⟨l, fp2Sub (fp2Mul l x) y, dbl2 (.affine x y)⟩ := by
  subst hl
  exact if_neg hy

theorem addStep_of_x_eq {xT xR : Fp2} (yT yR : Fp2) (hx : xT = xR) :
    addStep (.affine xT yT) (.affine xR yR) = .error (.degenerateStep 0) := if_pos hx

theorem addStep_of_x_ne {xT xR l : Fp2} (yT yR : Fp2) (hx : xT ≠ xR) (hl : l = chordSlope fp2Ops xT yT xR yR) :
    addStep (.affine xT yT) (.affine xR yR) =
      .ok ⟨l, fp2Sub (fp2Mul l xT) yT, add2 (.affine xT yT) (.affine xR yR)⟩ := by
  subst hl
  exact if_neg hx

/-- The only exception of a doubling step. -/
theorem dblStep_error {T : G2Point} {e : Exn} (h : dblStep T = .error e) : e = .degenerateStep 0 := by
  cases T with
  | infinity => exact (Except.error.inj h).symm
  | affine x y =>
    by_cases hy : y = fp2Zero
    · rw [dblStep_of_y_zero x hy] at h
      exact (Except.error.inj h).symm
    · rw [dblStep_of_y_ne_zero x hy rfl] at h
      cases h

/-- The only exception of an addition step. -/
theorem addStep_error {T R : G2Point} {e : Exn} (h : addStep T R = .error e) : e = .degenerateStep 0 := by
  match T, R with
  | .infinity, _ => exact (Except.error.inj h).symm
  | .affine _ _, .infinity => exact (Except.error.inj h).symm
  | .affine xT yT, .affine xR yR =>
    by_cases hx : xT = xR
    · rw [addStep_of_x_eq yT yR hx] at h
      exact (Except.error.inj h).symm
    · rw [addStep_of_x_ne yT yR hx rfl] at h
      cases h

end Sys2Proof.Machine
end

section
/-! SUPPORT. The Miller loop as a walk over a list of steps (`44_pairing.md` R274, R275): the loops over the bits of `s`, the one that
keeps the lines and the one that multiplies them in, go through the same steps as `walkLines`. -/

namespace Sys2Proof.Machine

/-! ## The steps left to do -/

/-- The steps left when the loop has the bits `n - 1` down to 0 of `s` to go: those of the bits, then the two closing ones. -/
def stepsFrom (Q : G2Point) : Nat → List (Option G2Point)
  | 0 => [some (frobPoint Q), some (neg2 (frobSqPoint Q))]
  | n + 1 => none :: if ateLoop.testBit n then some Q :: stepsFrom Q n else stepsFrom Q n

theorem stepsFrom_succ (Q : G2Point) (n : Nat) :
    stepsFrom Q (n + 1) = none :: if ateLoop.testBit n then some Q :: stepsFrom Q n else stepsFrom Q n := rfl

theorem stepsFrom_eq_flatMap (Q : G2Point) (n : Nat) :
    stepsFrom Q n =
      ((List.range n).reverse.map fun i => (ateLoop.testBit i).toNat).flatMap
        (fun d => if d = 1 then [none, some Q] else [none]) ++ [some (frobPoint Q), some (neg2 (frobSqPoint Q))] := by
  induction n with
  | zero => rfl
  | succ n ih =>
    rw [stepsFrom_succ, ih, List.range_succ, List.reverse_concat, List.map_cons, List.flatMap_cons, List.append_assoc]
    cases ateLoop.testBit n <;> rfl

/-- The digits of R57 are the bits of `s` below the leading one. -/
theorem ateDigits_eq_bits : ateDigits = (List.range 64).reverse.map fun i => (ateLoop.testBit i).toNat := by decide

theorem ateSteps_eq_stepsFrom (x y : Fp2) : ateSteps x y = stepsFrom (.affine x y) 64 := by
  rw [stepsFrom_eq_flatMap, ← ateDigits_eq_bits]
  rfl

theorem ateSteps_length (x y : Fp2) : (ateSteps x y).length = 102 := rfl

/-! ## Walks -/

/-- The computation after one that succeeds. -/
theorem ok_bind {ε α β : Type} (a : α) (f : α → Except ε β) : (Except.ok a >>= f) = f a := rfl

/-- One step from the running point `T`: a doubling, or the addition of a point. -/
def takeStep (T : G2Point) (st : Option G2Point) : Except Exn LineStep :=
  match st with
  | none => dblStep T
  | some R => addStep T R

theorem takeStep_error {T : G2Point} {st : Option G2Point} {e : Exn} (h : takeStep T st = .error e) :
    e = .degenerateStep 0 := by
  cases st with
  | none => exact dblStep_error h
  | some R => exact addStep_error h

theorem walkLines_cons (T : G2Point) (st : Option G2Point) (rest : List (Option G2Point)) :
    walkLines T (st :: rest) = takeStep T st >>= fun d => ((d.l, d.m) :: ·) <$> walkLines d.next rest := by
  cases h : takeStep T st with
  | ok d =>
    cases st with
    | none => exact walkLines_double rest h
    | some R => exact walkLines_add rest h
  | error e =>
    cases st with
    | none | some _ =>
      rw [takeStep] at h
      rw [walkLines, h]
      rfl

/-- A walk ends with one line per step, or with the exception of a degenerate step. -/
theorem walkLines_ends (T : G2Point) (steps : List (Option G2Point)) :
    (∃ cs, walkLines T steps = .ok cs ∧ cs.length = steps.length) ∨ walkLines T steps = .error (.degenerateStep 0) := by
  induction steps generalizing T with
  | nil => exact .inl ⟨[], rfl, rfl⟩
  | cons st rest ih =>
    rw [walkLines_cons]
    cases hd : takeStep T st with
    | error e => exact .inr (congrArg Except.error (takeStep_error hd))
    | ok d =>
      obtain ⟨cs, hcs, hlen⟩ | herr := ih d.next
      · exact .inl ⟨(d.l, d.m) :: cs, congrArg (Except.map _) hcs, congrArg (· + 1) hlen⟩
      · exact .inr (congrArg (Except.map _) herr)

theorem walkLines_length {T : G2Point} {steps : List (Option G2Point)} {cs : List (Fp2 × Fp2)}
    (h : walkLines T steps = .ok cs) : cs.length = steps.length := by
  obtain ⟨cs', hcs, hlen⟩ | herr := walkLines_ends T steps
  · rw [h, Except.ok.injEq] at hcs
    rw [hcs, hlen]
  · rw [h] at herr
    cases herr

theorem walkLines_error {T : G2Point} {steps : List (Option G2Point)} {e : Exn} (h : walkLines T steps = .error e) :
    e = .degenerateStep 0 := by
  obtain ⟨cs', hcs, -⟩ | herr := walkLines_ends T steps
  · rw [h] at hcs
    cases hcs
  · rw [h, Except.error.injEq] at herr
    exact herr

/-! ## The coefficients -/

theorem lineCoeffsLoop_succ (Q : G2Point) (n : Nat) (T : G2Point) :
    lineCoeffsLoop Q (n + 1) T = dblStep T >>= fun d =>
      if ateLoop.testBit n then addStep d.next Q >>= fun a =>
        (fun r => ((d.l, d.m) :: (a.l, a.m) :: r.1, r.2)) <$> lineCoeffsLoop Q n a.next
      else (fun r => ((d.l, d.m) :: r.1, r.2)) <$> lineCoeffsLoop Q n d.next := by
  rw [lineCoeffsLoop]
  cases dblStep T with
  | error e => rfl
  | ok d =>
    simp only [ok_bind]
    cases ateLoop.testBit n with
    | false => cases lineCoeffsLoop Q n d.next <;> rfl
    | true =>
      cases addStep d.next Q with
      | error e => rfl
      | ok a =>
        simp only [ok_bind]
        cases lineCoeffsLoop Q n a.next <;> rfl

/-- A loop followed by its closing walk is the walk over all the steps left. -/
theorem lineCoeffsLoop_close (Q : G2Point) (n : Nat) (T : G2Point) :
    (lineCoeffsLoop Q n T >>= fun r => (r.1 ++ ·) <$> walkLines r.2 (stepsFrom Q 0)) = walkLines T (stepsFrom Q n) := by
  induction n generalizing T with
  | zero => exact id_map (walkLines T (stepsFrom Q 0))
  | succ n ih =>
    rw [stepsFrom_succ, walkLines_cons, takeStep, lineCoeffsLoop_succ, bind_assoc]
    refine bind_congr fun d => ?_
    cases ateLoop.testBit n with
    | false => simp [← ih]
    | true => simp [← ih, walkLines_cons, takeStep, bind_assoc]

theorem lineCoeffs_eq_walkLines (x y : Fp2) : lineCoeffs (.affine x y) = walkLines (.affine x y) (ateSteps x y) := by
  rw [ateSteps_eq_stepsFrom, ← lineCoeffsLoop_close, lineCoeffs]
  cases lineCoeffsLoop (.affine x y) 64 (.affine x y) with
  | error e => rfl
  | ok r =>
    simp only [stepsFrom, walkLines_cons, takeStep, walkLines_nil, ok_bind]
    cases addStep r.2 (frobPoint (.affine x y)) with
    | error e => rfl
    | ok a =>
      simp only [ok_bind]
      cases addStep a.next (neg2 (frobSqPoint (.affine x y))) <;> rfl

/-! ## The value -/

/-- The accumulator after the steps, from `f`. -/
def evalFrom (xP yP : Fp) (f : Fp12) (steps : List (Option G2Point)) (cs : List (Fp2 × Fp2)) : Fp12 :=
  (steps.zip cs).foldl
    (fun f sc => fp12Mul (if sc.1.isNone then fp12Mul f f else f) (line sc.2.1 sc.2.2 xP yP)) f

section
variable (xP yP : Fp)

theorem evalLines_eq_evalFrom (steps : List (Option G2Point)) :
    evalLines xP yP steps = evalFrom xP yP fp12One steps := rfl

theorem evalFrom_double (f : Fp12) (steps : List (Option G2Point)) (c : Fp2 × Fp2) (cs : List (Fp2 × Fp2)) :
    evalFrom xP yP f (none :: steps) (c :: cs) =
      evalFrom xP yP (fp12Mul (fp12Sqr f) (line c.1 c.2 xP yP)) steps cs := rfl

theorem evalFrom_add (f : Fp12) (R : G2Point) (steps : List (Option G2Point)) (c : Fp2 × Fp2) (cs : List (Fp2 × Fp2)) :
    evalFrom xP yP f (some R :: steps) (c :: cs) = evalFrom xP yP (fp12Mul f (line c.1 c.2 xP yP)) steps cs := rfl

theorem millerEvalLoop_double {n : Nat} (hbit : ateLoop.testBit n = false) (f : Fp12) (d : Fp2 × Fp2)
    (cs : List (Fp2 × Fp2)) :
    millerEvalLoop xP yP (n + 1) f (d :: cs) =
      millerEvalLoop xP yP n (fp12Mul (fp12Sqr f) (line d.1 d.2 xP yP)) cs := by
  simp [millerEvalLoop, hbit]

theorem millerEvalLoop_double_add {n : Nat} (hbit : ateLoop.testBit n = true) (f : Fp12) (d a : Fp2 × Fp2)
    (cs : List (Fp2 × Fp2)) :
    millerEvalLoop xP yP (n + 1) f (d :: a :: cs) =
      millerEvalLoop xP yP n (fp12Mul (fp12Mul (fp12Sqr f) (line d.1 d.2 xP yP)) (line a.1 a.2 xP yP)) cs := by
  simp [millerEvalLoop, hbit]

/-- The loop over precomputed coefficients, its closing lines multiplied in, takes them as the steps left do. -/
theorem millerEvalLoop_close (Q : G2Point) {n : Nat} {f : Fp12} {cs : List (Fp2 × Fp2)}
    (hlen : cs.length = (stepsFrom Q n).length) :
    (millerEvalLoop xP yP n f cs).2.foldl (fun f c => fp12Mul f (line c.1 c.2 xP yP)) (millerEvalLoop xP yP n f cs).1 =
      evalFrom xP yP f (stepsFrom Q n) cs := by
  induction n generalizing f cs with
  | zero =>
    obtain ⟨a, b, rfl⟩ := List.length_eq_two.1 hlen
    rfl
  | succ n ih =>
    rw [stepsFrom_succ] at hlen ⊢
    obtain ⟨d, cs, rfl⟩ := List.exists_cons_of_length_eq_add_one hlen
    cases hbit : ateLoop.testBit n with
    | false =>
      rw [hbit, if_neg Bool.false_ne_true] at hlen
      rw [if_neg Bool.false_ne_true, millerEvalLoop_double xP yP hbit, evalFrom_double]
      exact ih (Nat.succ.inj hlen)
    | true =>
      rw [hbit, if_pos rfl] at hlen
      obtain ⟨a, cs, rfl⟩ := List.exists_cons_of_length_eq_add_one (Nat.succ.inj hlen)
      rw [if_pos rfl, millerEvalLoop_double_add xP yP hbit, evalFrom_double, evalFrom_add]
      exact ih (Nat.succ.inj (Nat.succ.inj hlen))

theorem millerEval_eq_evalLines (x y : Fp2) {cs : List (Fp2 × Fp2)} (hlen : cs.length = (ateSteps x y).length) :
    millerEval xP yP cs = evalLines xP yP (ateSteps x y) cs := by
  rw [ateSteps_eq_stepsFrom] at hlen ⊢
  rw [evalLines_eq_evalFrom]
  exact millerEvalLoop_close xP yP _ hlen

theorem millerLoop_succ (Q : G2Point) (n : Nat) (f : Fp12) (T : G2Point) :
    millerLoop xP yP Q (n + 1) f T = dblStep T >>= fun d =>
      if ateLoop.testBit n then addStep d.next Q >>= fun a =>
        millerLoop xP yP Q n (mulLine (mulLine (fp12Sqr f) d xP yP) a xP yP) a.next
      else millerLoop xP yP Q n (mulLine (fp12Sqr f) d xP yP) d.next := by
  rw [millerLoop]
  cases dblStep T with
  | error e => rfl
  | ok d =>
    simp only [ok_bind]
    cases ateLoop.testBit n with
    | false => rfl
    | true => cases addStep d.next Q <;> rfl

theorem millerClose_eq (Q : G2Point) (f : Fp12) (T : G2Point) :
    millerClose xP yP Q f T = evalFrom xP yP f (stepsFrom Q 0) <$> walkLines T (stepsFrom Q 0) := by
  simp only [millerClose, stepsFrom, walkLines_cons, takeStep, walkLines_nil]
  cases addStep T (frobPoint Q) with
  | error e => rfl
  | ok a =>
    simp only [ok_bind]
    cases addStep a.next (neg2 (frobSqPoint Q)) <;> rfl

/-- The Miller loop with its closing steps is the walk over the steps left, its lines multiplied in. -/
theorem millerLoop_close (Q : G2Point) (n : Nat) (f : Fp12) (T : G2Point) :
    (millerLoop xP yP Q n f T >>= fun r => millerClose xP yP Q r.1 r.2) =
      evalFrom xP yP f (stepsFrom Q n) <$> walkLines T (stepsFrom Q n) := by
  induction n generalizing f T with
  | zero => exact millerClose_eq xP yP Q f T
  | succ n ih =>
    rw [stepsFrom_succ, walkLines_cons, takeStep, millerLoop_succ, bind_assoc, map_bind]
    refine bind_congr fun d => ?_
    cases ateLoop.testBit n with
    | false => simp [ih, evalFrom_double, mulLine]
    | true => simp [ih, walkLines_cons, takeStep, evalFrom_double, evalFrom_add, mulLine]

end

/-- The Miller value of two affine points is that of the lines of the walk, and a degenerate step of the walk is its exception. -/
theorem miller_affine (xP yP : Fp) (x y : Fp2) :
    miller (.affine xP yP) (.affine x y) =
      evalLines xP yP (ateSteps x y) <$> walkLines (.affine x y) (ateSteps x y) := by
  rw [evalLines_eq_evalFrom, ateSteps_eq_stepsFrom, ← millerLoop_close, miller]
  cases millerLoop xP yP (.affine x y) 64 fp12One (.affine x y) <;> rfl

theorem miller_of_infinity {A : G1Point} {B : G2Point} (h : A = .infinity ∨ B = .infinity) : miller A B = .ok fp12One := by
  obtain rfl | rfl := h
  · rfl
  · cases A <;> rfl

end Sys2Proof.Machine
end

section
/-! The lines, the Miller loop and the pairing (`44_pairing.md` R270 to R277, R283, R284, R286). -/

namespace Sys2Proof.Machine

/-- Settles O30: a step has the slope the model's quotient gives, which satisfies its equation because the denominator is not zero;
the loop of the model walks the steps of the digits of `s`, so its value, its coefficients and its exception are those of the
walk. -/
theorem millerLoopEvaluatesTheLines : Obligations.MillerLoopEvaluatesTheLines := by
  have := isDomain_K2
  refine ⟨?line, ?dbl, ?add, ?commands⟩
  case line =>
    intro l m xP yP
    obtain ⟨h0, h1⟩ := fp2Neg_scale_val l xP
    exact ⟨_, h0, h1, rfl⟩
  case dbl =>
    intro x y
    refine ⟨dblStep_of_y_zero x, fun hy => ⟨tangentSlope fp2Ops x y, _, _, fp2Ops_readsAs.tangentSlope_mul x hy, rfl, rfl,
      ?_⟩⟩
    rw [dblStep_of_y_ne_zero x hy rfl, dbl2, pointDbl_of_y_ne_zero (O := fp2Ops) x hy rfl rfl]
    rfl
  case add =>
    intro xT yT xR yR
    refine ⟨addStep_of_x_eq yT yR, fun hx => ⟨chordSlope fp2Ops xT yT xR yR, _, _,
      fp2Ops_readsAs.chordSlope_mul yT yR hx, rfl, rfl, ?_⟩⟩
    rw [addStep_of_x_ne yT yR hx rfl, add2, pointAdd_of_x_ne yT yR hx]
    rfl
  case commands =>
    intro s rd ra rb A B hA hB
    refine ⟨?identity, ?lines, ?degenerate⟩
    case identity =>
      intro h
      have hm := miller_of_infinity h
      refine ⟨execMiller_of_ok hA hB hm, ?_⟩
      rw [execPair_of_ok hA hB hm, finalExp_one]
    case lines =>
      rintro x y xQ yQ cs rfl rfl hcs
      have hlen : cs.length = 102 := (walkLines_length hcs).trans (ateSteps_length xQ yQ)
      have hm : miller (.affine x y) (.affine xQ yQ) = .ok (evalLines x y (ateSteps xQ yQ) cs) := by
        rw [miller_affine, hcs, Except.map_ok]
      refine ⟨(lineCoeffs_eq_walkLines xQ yQ).trans hcs, hlen, millerEval_eq_evalLines x y xQ yQ hlen,
        execMiller_of_ok hA hB hm, ?_⟩
      rw [execPair_of_ok hA hB hm, finalExp_eq_iterMul]
    case degenerate =>
      rintro x y xQ yQ e rfl rfl he
      obtain rfl := walkLines_error he
      have hm : miller (.affine x y) (.affine xQ yQ) = .error (.degenerateStep 0) := by
        rw [miller_affine, he, Except.map_error]
      exact ⟨(lineCoeffs_eq_walkLines xQ yQ).trans he, execMiller_of_error hA hB hm, execPair_of_error hA hB hm⟩

end Sys2Proof.Machine
end

section
/-! SUPPORT. The accumulation of `PairingCheck` pair by pair (`45_pairing_check.md` R300, R305, R306), and the list commands on the
cases of their checks. -/

namespace Sys2Proof.Machine

/-! ## One pair -/

/-- The one exception of a Miller loop is the degenerate step. -/
theorem miller_error {A : G1Point} {B : G2Point} {e : Exn} (h : miller A B = .error e) : e = .degenerateStep 0 := by
  cases A with
  | infinity => cases h
  | affine xP yP =>
    cases B with
    | infinity => cases h
    | affine x y =>
      rw [miller_affine] at h
      cases hw : walkLines (.affine x y) (ateSteps x y) with
      | ok cs =>
        rw [hw] at h
        cases h
      | error e' =>
        rw [hw, Except.map_error, walkLines_error hw, Except.error.injEq] at h
        exact h.symm

theorem fp12Mul_one (a : Fp12) : fp12Mul a fp12One = a := toK12_injective (by rw [toK12_mul, toK12_one, mul_one])

theorem pointIsId_or_iff (A : G1Point) (B : G2Point) :
    (pointIsId A || pointIsId B) = true ↔ A = .infinity ∨ B = .infinity := by
  simp [pointIsId_eq_decide]

section
variable {n : Nat} {acc : Fp12} {A : G1Point} {B : G2Point} {As : List G1Point} {Bs : List G2Point}

/-- A pair with a Miller value multiplies it in. A pair with an identity, which is skipped, has the value one. -/
theorem pairProduct_cons_of_ok {f : Fp12} (h : miller A B = .ok f) :
    pairProduct n acc (A :: As) (B :: Bs) = pairProduct (n + 1) (fp12Mul acc f) As Bs := by
  by_cases hid : A = .infinity ∨ B = .infinity
  · obtain rfl : fp12One = f := Except.ok.inj ((miller_of_infinity hid).symm.trans h)
    rw [pairProduct, if_pos ((pointIsId_or_iff A B).2 hid), fp12Mul_one]
  · rw [pairProduct, if_neg ((pointIsId_or_iff A B).not.2 hid), h]

/-- A pair without a Miller value is not skipped, and raises with its index. -/
theorem pairProduct_cons_of_error {e : Exn} (h : miller A B = .error e) :
    pairProduct n acc (A :: As) (B :: Bs) = .error (.degenerateStep n) := by
  have hid : ¬ (A = .infinity ∨ B = .infinity) := fun hid => nomatch (miller_of_infinity hid).symm.trans h
  rw [pairProduct, if_neg ((pointIsId_or_iff A B).not.2 hid), h, miller_error h]
  rfl

end

/-! ## All pairs -/

/-- `fs` are the Miller values of the pairs of two lists. -/
def MillerValues (As : List G1Point) (Bs : List G2Point) (fs : List Fp12) : Prop :=
  ∀ (i : Nat) (A : G1Point) (B : G2Point) (f : Fp12), As[i]? = some A → Bs[i]? = some B → fs[i]? = some f → miller A B = .ok f

theorem millerValues_cons {A : G1Point} {B : G2Point} {f : Fp12} {As : List G1Point} {Bs : List G2Point} {fs : List Fp12}
    (h : MillerValues (A :: As) (B :: Bs) (f :: fs)) : miller A B = .ok f ∧ MillerValues As Bs fs :=
  ⟨h 0 A B f rfl rfl rfl, fun i => h (i + 1)⟩

theorem pairProduct_of_millerValues {As : List G1Point} {Bs : List G2Point} {fs : List Fp12} (hA : As.length = fs.length)
    (hB : Bs.length = fs.length) (h : MillerValues As Bs fs) (n : Nat) (acc : Fp12) :
    pairProduct n acc As Bs = .ok (fs.foldl fp12Mul acc) := by
  induction fs generalizing As Bs n acc with
  | nil =>
    obtain rfl := List.eq_nil_of_length_eq_zero hA
    rfl
  | cons f fs ih =>
    obtain ⟨A, As, rfl⟩ := List.exists_cons_of_length_eq_add_one hA
    obtain ⟨B, Bs, rfl⟩ := List.exists_cons_of_length_eq_add_one hB
    obtain ⟨hf, hfs⟩ := millerValues_cons h
    rw [pairProduct_cons_of_ok hf]
    exact ih (Nat.succ.inj hA) (Nat.succ.inj hB) hfs _ _

/-- The pair at `i` is the lowest one without a Miller value, with the exception `e` (R306). -/
def LowestDegenerate (As : List G1Point) (Bs : List G2Point) (i : Nat) (e : Exn) : Prop :=
  (∃ A B, As[i]? = some A ∧ Bs[i]? = some B ∧ miller A B = .error e) ∧
    ∀ j C D, j < i → As[j]? = some C → Bs[j]? = some D → ∃ f, miller C D = .ok f

theorem lowestDegenerate_cons_zero {A : G1Point} {B : G2Point} {As : List G1Point} {Bs : List G2Point} {e : Exn}
    (h : LowestDegenerate (A :: As) (B :: Bs) 0 e) : miller A B = .error e := by
  obtain ⟨⟨C, D, hC, hD, he⟩, -⟩ := h
  cases hC
  cases hD
  exact he

/-- Above index 0 the head has a Miller value, and the lowest degenerate pair is that of the tails, one index lower. -/
theorem lowestDegenerate_cons_succ {A : G1Point} {B : G2Point} {As : List G1Point} {Bs : List G2Point} {i : Nat} {e : Exn}
    (h : LowestDegenerate (A :: As) (B :: Bs) (i + 1) e) : (∃ f, miller A B = .ok f) ∧ LowestDegenerate As Bs i e := by
  obtain ⟨hat, hbelow⟩ := h
  exact ⟨hbelow 0 A B i.succ_pos rfl rfl, hat, fun j C D hj => hbelow (j + 1) C D (Nat.succ_lt_succ hj)⟩

theorem LowestDegenerate.exists_cons {As : List G1Point} {Bs : List G2Point} {i : Nat} {e : Exn}
    (h : LowestDegenerate As Bs i e) : ∃ A As' B Bs', As = A :: As' ∧ Bs = B :: Bs' := by
  obtain ⟨⟨A, B, hA, hB, -⟩, -⟩ := h
  cases As with
  | nil => cases hA
  | cons A' As =>
    cases Bs with
    | nil => cases hB
    | cons B' Bs => exact ⟨A', As, B', Bs, rfl, rfl⟩

theorem pairProduct_of_lowestDegenerate {As : List G1Point} {Bs : List G2Point} {i : Nat} {e : Exn}
    (h : LowestDegenerate As Bs i e) (n : Nat) (acc : Fp12) : pairProduct n acc As Bs = .error (.degenerateStep (n + i)) := by
  induction i generalizing As Bs n acc with
  | zero =>
    obtain ⟨A, As, B, Bs, rfl, rfl⟩ := h.exists_cons
    exact pairProduct_cons_of_error (lowestDegenerate_cons_zero h)
  | succ i ih =>
    obtain ⟨A, As, B, Bs, rfl, rfl⟩ := h.exists_cons
    obtain ⟨⟨f, hf⟩, htail⟩ := lowestDegenerate_cons_succ h
    rw [pairProduct_cons_of_ok hf, ih htail, Nat.add_right_comm, Nat.add_assoc]

/-! ## The check -/

section
variable {As : List G1Point} {Bs : List G2Point}

theorem pairingCheck_of_length_ne (h : As.length ≠ Bs.length) : pairingCheck As Bs = .error .lengthMismatch := if_pos h

theorem pairingCheck_of_ok {acc : Fp12} (hlen : As.length = Bs.length) (h : pairProduct 0 fp12One As Bs = .ok acc) :
    pairingCheck As Bs = .ok (decide (finalExp acc = fp12One)) := by
  rw [pairingCheck, if_neg (not_not.2 hlen), h]
  rfl

theorem pairingCheck_of_error {x : Exn} (hlen : As.length = Bs.length) (h : pairProduct 0 fp12One As Bs = .error x) :
    pairingCheck As Bs = .error x := by
  rw [pairingCheck, if_neg (not_not.2 hlen), h]

end

/-! ## The commands -/

section
variable {s : State}

theorem execPcRun_of_ok {b : Bool} (h : pairingCheck s.l1 s.l2 = .ok b) :
    exec .pcRun s = .next { s.afterT b with l1 := [], l2 := [] } :=
  State.finish_next.2 (.inl ⟨_, bind_ok.2 ⟨b, h, rfl⟩, rfl⟩)

theorem execPcRun_of_error {x : Exn} (h : pairingCheck s.l1 s.l2 = .error x) :
    exec .pcRun s = .next (s.afterRaise x.code x.sub x.idx) :=
  State.finish_next.2 (.inr ⟨x, bind_error.2 (.inl h), (raised_eq_afterRaise s x).symm⟩)

theorem execPcClr_eq (s : State) : exec .pcClr s = .next (s.afterLists [] []) :=
  (State.finish_ok s (s.setLists [] [])).trans (by rw [completed_setLists])

variable {ra : PIdx} {A : G1Point}

theorem execPcPush1_of_lt (hA : s.holdsP ra A) (hlen : s.l1.length < 8) :
    exec (.pcPush1 ra) s = .next (s.afterLists (s.l1 ++ [A]) s.l2) := by
  obtain ⟨a, ha, hgetA⟩ := getP_of_holdsP hA
  exact State.finish_next.2 (.inl ⟨_, bind_ok.2 ⟨a, ha, bind_ok.2 ⟨A, hgetA _, if_neg (not_le.2 hlen)⟩⟩,
    (completed_setLists s _ _).symm⟩)

theorem execPcPush1_of_full (hA : s.holdsP ra A) (hlen : 8 ≤ s.l1.length) :
    exec (.pcPush1 ra) s = .next (s.afterRaise 0x13 1 0) := by
  obtain ⟨a, ha, hgetA⟩ := getP_of_holdsP hA
  exact State.finish_next.2 (.inr ⟨.list1Full,
    bind_error.2 (.inr ⟨a, ha, bind_error.2 (.inr ⟨A, hgetA _, if_pos hlen⟩)⟩), (raised_eq_afterRaise s .list1Full).symm⟩)

variable {rb : QIdx} {B : G2Point}

theorem execPcPush2_of_lt (hB : s.holdsQ rb B) (hlen : s.l2.length < 8) :
    exec (.pcPush2 rb) s = .next (s.afterLists s.l1 (s.l2 ++ [B])) := by
  obtain ⟨b, hb, hgetB⟩ := getQ_of_holdsQ hB
  exact State.finish_next.2 (.inl ⟨_, bind_ok.2 ⟨b, hb, bind_ok.2 ⟨B, hgetB _, if_neg (not_le.2 hlen)⟩⟩,
    (completed_setLists s _ _).symm⟩)

theorem execPcPush2_of_full (hB : s.holdsQ rb B) (hlen : 8 ≤ s.l2.length) :
    exec (.pcPush2 rb) s = .next (s.afterRaise 0x13 2 0) := by
  obtain ⟨b, hb, hgetB⟩ := getQ_of_holdsQ hB
  exact State.finish_next.2 (.inr ⟨.list2Full,
    bind_error.2 (.inr ⟨b, hb, bind_error.2 (.inr ⟨B, hgetB _, if_pos hlen⟩)⟩), (raised_eq_afterRaise s .list2Full).symm⟩)

end

end Sys2Proof.Machine
end

section
/-! The product check and its lists (`45_pairing_check.md` R300, R302 to R306). -/

namespace Sys2Proof.Machine

/-- Settles O33: the accumulation multiplies in the Miller values it finds, one for each pair it skips, and stops at the first pair
that has none; the power by squaring is the repeated product. -/
theorem pairingCheckRun : Obligations.PairingCheckRun := by
  intro s
  refine ⟨fun hne => execPcRun_of_error (pairingCheck_of_length_ne hne), ?checked, ?degenerate⟩
  case checked =>
    intro fs h1 h2 hmiller
    have hproduct := pairProduct_of_millerValues h1 h2 hmiller 0 fp12One
    rw [execPcRun_of_ok (pairingCheck_of_ok (h1.trans h2.symm) hproduct), finalExp_eq_iterMul]
  case degenerate =>
    intro i A B e hlen hA hB he hbelow
    have hproduct := pairProduct_of_lowestDegenerate ⟨⟨A, B, hA, hB, he⟩, hbelow⟩ 0 fp12One
    rw [Nat.zero_add] at hproduct
    exact execPcRun_of_error (pairingCheck_of_error hlen hproduct)

/-- Settles O32: the fetch of a push gives its point, and the length of its list decides its end. -/
theorem listCommands : Obligations.ListCommands := fun s =>
  ⟨execPcClr_eq s,
    fun _ _ hA => ⟨execPcPush1_of_lt hA, fun hfull => execPcPush1_of_full hA hfull.ge⟩,
    fun _ _ hB => ⟨execPcPush2_of_lt hB, fun hfull => execPcPush2_of_full hB hfull.ge⟩⟩

end Sys2Proof.Machine
end


section
/-! SUPPORT. Byte strings as integers (`46_point_encoding.md` R310): a string of a given length and its big-endian integer determine each
other; a string in two parts; bit 7 of the first byte (R316 to R318). -/

namespace Sys2Proof.Machine

/-! ## Big-endian integers -/

theorem be_lt (B : List Byte) : be B < 256 ^ B.length := by
  induction B with
  | nil => exact Nat.one_pos
  | cons b B ih =>
    rw [be_cons, List.length_cons, pow_succ']
    calc b.toNat * 256 ^ B.length + be B < (b.toNat + 1) * 256 ^ B.length := by
          rw [add_one_mul]
          exact Nat.add_lt_add_left ih _
      _ ≤ 256 * 256 ^ B.length := Nat.mul_le_mul_right _ b.isLt

theorem be_beBytes (n v : Nat) : be (beBytes n v) = v % 256 ^ n := by
  induction n with
  | zero => exact (Nat.mod_one v).symm
  | succ n ih =>
    rw [beBytes, be_cons, beBytes_length, ih, BitVec.toNat_ofNat, Nat.mod_pow_succ (b := 256), add_comm, mul_comm]

theorem be_injective_of_length {B C : List Byte} (hlen : B.length = C.length) (h : be B = be C) : B = C := by
  induction B generalizing C with
  | nil => exact (List.length_eq_zero_iff.1 hlen.symm).symm
  | cons b B ih =>
    obtain ⟨c, C, rfl⟩ := List.exists_cons_of_length_eq_add_one hlen.symm
    have hlen' : B.length = C.length := Nat.succ.inj hlen
    have hpos : 0 < 256 ^ C.length := Nat.pow_pos (by decide)
    have hB := be_lt B
    rw [hlen'] at hB
    rw [be_cons, be_cons, hlen', add_comm, mul_comm, add_comm _ (be C), mul_comm c.toNat] at h
    obtain ⟨hdiv, hmod⟩ := (Nat.div_mod_unique hpos).2 ⟨h, hB⟩
    obtain ⟨hdiv', hmod'⟩ := (Nat.div_mod_unique hpos).2 ⟨rfl, be_lt C⟩
    rw [BitVec.eq_of_toNat_eq (hdiv.symm.trans hdiv'), ih hlen' (hmod.symm.trans hmod')]

theorem be_be32 (v : Nat) : be (be32 v) = v % 2 ^ 256 := be_beBytes 32 v

theorem be32_length (v : Nat) : (be32 v).length = 32 := beBytes_length 32 v

/-- The 32-byte strings are the encodings of the integers below `2^256`. -/
theorem be32_eq_iff {v : Nat} {B : List Byte} (hv : v < 2 ^ 256) (hB : B.length = 32) : be32 v = B ↔ v = be B := by
  constructor
  · rintro rfl
    rw [be_be32, Nat.mod_eq_of_lt hv]
  · rintro rfl
    apply be_injective_of_length (by rw [be32_length, hB])
    rw [be_be32, Nat.mod_eq_of_lt hv]

theorem be32_be {B : List Byte} (hB : B.length = 32) : be32 (be B) = B :=
  (be32_eq_iff (by simpa [hB] using be_lt B) hB).2 rfl

theorem be32_inj {v w : Nat} (hv : v < 2 ^ 256) (hw : w < 2 ^ 256) : be32 v = be32 w ↔ v = w := by
  rw [be32_eq_iff hv (be32_length w), be_be32, Nat.mod_eq_of_lt hw]

theorem be32_zero : be32 0 = zeros 32 := by decide

/-- Only the low bytes of an integer are written. -/
theorem beBytes_congr {n v w : Nat} (h : v % 256 ^ n = w % 256 ^ n) : beBytes n v = beBytes n w :=
  be_injective_of_length (by rw [beBytes_length, beBytes_length]) (by rw [be_beBytes, be_beBytes, h])

/-! ## Strings in parts -/

theorem zeros_append (m n : Nat) : zeros m ++ zeros n = zeros (m + n) := List.replicate_append_replicate

theorem zeros_length (n : Nat) : (zeros n).length = n := List.length_replicate

theorem bytesFrom_length {B : List Byte} {i j : Nat} (h : j ≤ B.length) : (bytesFrom B i j).length = j - i := by
  rw [bytesFrom, List.length_take, List.length_drop]
  omega

/-- A part of a part is a part of the whole. -/
theorem bytesFrom_bytesFrom (B : List Byte) (i : Nat) {j k : Nat} (h : j ≤ k) :
    bytesFrom (bytesFrom B 0 k) i j = bytesFrom B i j := by
  rw [bytesFrom, bytesFrom, bytesFrom, List.drop_zero, List.drop_take, List.take_take, Nat.sub_zero,
    min_eq_left (Nat.sub_le_sub_right h i)]

/-- A string is two strings one behind the other exactly when they are its parts. -/
theorem append_eq_iff_bytesFrom {X Y B : List Byte} {i j : Nat} (hX : X.length = i) (hB : B.length = j) :
    X ++ Y = B ↔ bytesFrom B 0 i = X ∧ bytesFrom B i j = Y := by
  have hhead : bytesFrom B 0 i = B.take i := rfl
  have htail : bytesFrom B i j = B.drop i := List.take_of_length_le (by rw [List.length_drop, hB])
  rw [hhead, htail]
  constructor
  · rintro rfl
    exact ⟨List.take_left' hX, List.drop_left' hX⟩
  · rintro ⟨rfl, rfl⟩
    exact List.take_append_drop i B

/-! ## The sign bit -/

theorem getSign_lt (B : List Byte) : getSign B < 2 := by
  cases B with
  | nil => exact Nat.two_pos
  | cons b B => exact Nat.div_lt_of_lt_mul b.isLt

theorem putSign_putSign (S T : Nat) (B : List Byte) : putSign S (putSign T B) = putSign S B := by
  cases B with
  | nil => rfl
  | cons b B =>
    simp only [putSign, BitVec.toNat_ofNat, List.cons.injEq, and_true]
    congr 1
    omega

theorem putSign_getSign (B : List Byte) : putSign (getSign B) B = B := by
  cases B with
  | nil => rfl
  | cons b B =>
    simp only [putSign, getSign, Nat.mod_add_div, BitVec.ofNat_toNat, BitVec.setWidth_eq]

theorem getSign_putSign {S : Nat} (hS : S < 2) {B : List Byte} (hB : 0 < B.length) : getSign (putSign S B) = S := by
  obtain ⟨b, B, rfl⟩ := List.exists_cons_of_length_pos hB
  simp only [putSign, getSign, BitVec.toNat_ofNat]
  omega

/-- A string is a signed one exactly when it has that sign and the rest. -/
theorem putSign_eq_iff {S : Nat} (hS : S < 2) {B C : List Byte} (hC : 0 < C.length) (hsign : getSign C = 0) :
    putSign S C = B ↔ putSign 0 B = C ∧ getSign B = S := by
  have hclear : putSign 0 C = C := by
    rw [← hsign]
    exact putSign_getSign C
  constructor
  · rintro rfl
    rw [putSign_putSign, getSign_putSign hS hC]
    exact ⟨hclear, rfl⟩
  · rintro ⟨rfl, rfl⟩
    rw [putSign_putSign, putSign_getSign]

theorem putSign_zeros (n : Nat) : putSign 0 (zeros n) = zeros n := by cases n <;> rfl

/-- The sign bit of a string is bit 255 of its first block. -/
theorem getSign_be32_append (v : Nat) (C : List Byte) : getSign (be32 v ++ C) = v / 2 ^ 255 % 2 := by
  change (BitVec.ofNat 8 (v / 256 ^ 31)).toNat / 128 = _
  rw [BitVec.toNat_ofNat]
  omega

theorem putSign_be32_append (S v : Nat) (C : List Byte) :
    putSign S (be32 v ++ C) = be32 (v % 2 ^ 255 + 2 ^ 255 * S) ++ C := by
  have hfirst : BitVec.ofNat 8 ((BitVec.ofNat 8 (v / 256 ^ 31)).toNat % 128 + 128 * S) =
      BitVec.ofNat 8 ((v % 2 ^ 255 + 2 ^ 255 * S) / 256 ^ 31) := by
    rw [BitVec.toNat_ofNat]
    congr 1
    omega
  have hrest : beBytes 31 v = beBytes 31 (v % 2 ^ 255 + 2 ^ 255 * S) := beBytes_congr (by omega)
  change BitVec.ofNat 8 ((BitVec.ofNat 8 (v / 256 ^ 31)).toNat % 128 + 128 * S) :: (beBytes 31 v ++ C) = _
  rw [hfirst, hrest]
  rfl

theorem getSign_be32 (v : Nat) : getSign (be32 v) = v / 2 ^ 255 % 2 := by
  rw [← getSign_be32_append v [], List.append_nil]

theorem putSign_be32 (S v : Nat) : putSign S (be32 v) = be32 (v % 2 ^ 255 + 2 ^ 255 * S) := by
  rw [← List.append_nil (be32 v), putSign_be32_append, List.append_nil]

end Sys2Proof.Machine
end

section
/-! SUPPORT. The decoders of field elements (`46_point_encoding.md` R310 to R313): a string of the right length decodes to an element
exactly when it is its encoding, and all they raise is `InvalidEncoding(SUB=2)`. -/

namespace Sys2Proof.Machine

theorem lt_of_lt_p {v : Nat} (h : v < Config.p) : v < 2 ^ 255 := h.trans (by decide)

theorem val_lt_block (a : Fp) : a.val < 2 ^ 256 := (lt_of_lt_p a.isLt).trans (by decide)

/-! ## Decoding is the inverse of encoding -/

theorem canonical_ok {v : Nat} {a : Fp} : canonical v = .ok a ↔ v = a.val := by
  unfold canonical
  split
  · next h => rw [Except.ok.injEq, Fin.ext_iff]
  · next h => exact ⟨nofun, fun hv => absurd (hv ▸ a.isLt) h⟩

theorem decFp_ok_iff {B : List Byte} (hB : B.length = 32) (a : Fp) : decFp B = .ok a ↔ encFp a = B := by
  rw [decFp, canonical_ok, encFp, be32_eq_iff (val_lt_block a) hB, eq_comm]

theorem decFp2_ok_iff {B : List Byte} (hB : B.length = 64) (a : Fp2) : decFp2 B = .ok a ↔ encFp2 a = B := by
  have hparts : decFp2 B = .ok a ↔ decFp (bytesFrom B 32 64) = .ok a.a0 ∧ decFp (bytesFrom B 0 32) = .ok a.a1 := by
    simp only [decFp2, bind_ok, pure_ok]
    constructor
    · rintro ⟨_, h0, _, h1, rfl⟩
      exact ⟨h0, h1⟩
    · rintro ⟨h0, h1⟩
      exact ⟨_, h0, _, h1, rfl⟩
  rw [hparts, decFp_ok_iff (bytesFrom_length (by omega)), decFp_ok_iff (bytesFrom_length (by omega)), encFp2,
    append_eq_iff_bytesFrom (encFp_length _) hB, eq_comm, eq_comm (a := encFp a.a1), and_comm]

theorem decFp6_ok_iff {B : List Byte} (hB : B.length = 192) (a : Fp6) : decFp6 B = .ok a ↔ encFp6 a = B := by
  have hparts : decFp6 B = .ok a ↔ decFp2 (bytesFrom B 128 192) = .ok a.c0 ∧ decFp2 (bytesFrom B 64 128) = .ok a.c1 ∧
      decFp2 (bytesFrom B 0 64) = .ok a.c2 := by
    simp only [decFp6, bind_ok, pure_ok]
    constructor
    · rintro ⟨_, h0, _, h1, _, h2, rfl⟩
      exact ⟨h0, h1, h2⟩
    · rintro ⟨h0, h1, h2⟩
      exact ⟨_, h0, _, h1, _, h2, rfl⟩
  have hhigh : (encFp2 a.c2 ++ encFp2 a.c1).length = 128 := by simp [encFp2_length]
  have hhead : (bytesFrom B 0 128).length = 128 := bytesFrom_length (by omega)
  rw [hparts, decFp2_ok_iff (bytesFrom_length (by omega)), decFp2_ok_iff (bytesFrom_length (by omega)),
    decFp2_ok_iff (bytesFrom_length (by omega)), encFp6, append_eq_iff_bytesFrom hhigh hB,
    eq_comm (a := bytesFrom B 0 128), append_eq_iff_bytesFrom (encFp2_length _) hhead,
    bytesFrom_bytesFrom B 0 (by decide), bytesFrom_bytesFrom B 64 (by decide), eq_comm, eq_comm (a := encFp2 a.c1),
    eq_comm (a := encFp2 a.c2), and_comm, and_comm (a := bytesFrom B 64 128 = _)]

theorem decFp12_ok_iff {B : List Byte} (hB : B.length = 384) (a : Fp12) : decFp12 B = .ok a ↔ encFp12 a = B := by
  have hparts : decFp12 B = .ok a ↔ decFp6 (bytesFrom B 0 192) = .ok a.x ∧ decFp6 (bytesFrom B 192 384) = .ok a.y := by
    simp only [decFp12, bind_ok, pure_ok]
    constructor
    · rintro ⟨_, hx, _, hy, rfl⟩
      exact ⟨hx, hy⟩
    · rintro ⟨hx, hy⟩
      exact ⟨_, hx, _, hy, rfl⟩
  rw [hparts, decFp6_ok_iff (bytesFrom_length (by omega)), decFp6_ok_iff (bytesFrom_length (by omega)), encFp12,
    append_eq_iff_bytesFrom (encFp6_length _) hB, eq_comm, eq_comm (a := encFp6 a.y)]

/-! ## What the decoders raise -/

/-- A decoder that raises nothing but `InvalidEncoding(SUB=2)`. -/
def RaisesNonCanonical {α : Type} (dec : List Byte → Except Exn α) : Prop := ∀ B x, dec B = .error x → x = .nonCanonical

theorem decFp_raises : RaisesNonCanonical decFp := by
  intro B x h
  rw [decFp, canonical] at h
  split at h
  · cases h
  · exact (Except.error.inj h).symm

theorem decFp2_raises : RaisesNonCanonical decFp2 := by
  intro B x h
  obtain h0 | ⟨_, _, h⟩ := bind_error.1 h
  · exact decFp_raises _ x h0
  obtain h1 | ⟨_, _, h⟩ := bind_error.1 h
  · exact decFp_raises _ x h1
  · cases h

theorem decFp6_raises : RaisesNonCanonical decFp6 := by
  intro B x h
  obtain h0 | ⟨_, _, h⟩ := bind_error.1 h
  · exact decFp2_raises _ x h0
  obtain h1 | ⟨_, _, h⟩ := bind_error.1 h
  · exact decFp2_raises _ x h1
  obtain h2 | ⟨_, _, h⟩ := bind_error.1 h
  · exact decFp2_raises _ x h2
  · cases h

theorem decFp12_raises : RaisesNonCanonical decFp12 := by
  intro B x h
  obtain hx | ⟨_, _, h⟩ := bind_error.1 h
  · exact decFp6_raises _ x hx
  obtain hy | ⟨_, _, h⟩ := bind_error.1 h
  · exact decFp6_raises _ x hy
  · cases h

/-- Such a decoder raises on every string that it does not decode. -/
theorem RaisesNonCanonical.error {α : Type} {dec : List Byte → Except Exn α} (h : RaisesNonCanonical dec) {B : List Byte}
    (hB : ∀ a, dec B ≠ .ok a) : dec B = .error .nonCanonical := by
  cases hdec : dec B with
  | ok a => exact absurd hdec (hB a)
  | error x => rw [h B x hdec]

end Sys2Proof.Machine
end

section
/-! SUPPORT. Signs and square roots (`46_point_encoding.md` R316 to R318): `y` and `-y` have different signs unless `y = 0`, and both
reference algorithms find a root of every square. -/

namespace Sys2Proof.Machine

/-! ## Signs (R316) -/

theorem fpNeg_val_of_ne_zero {y : Fp} (hy : y ≠ fpZero) : (fpNeg y).val = Config.p - y.val := by
  have hpos : 0 < y.val := Nat.pos_of_ne_zero (mt (fp_eq_zero_iff y).2 hy)
  exact Nat.mod_eq_of_lt (Nat.sub_lt Config.p_pos hpos)

theorem fpNeg_zero : fpNeg fpZero = fpZero := by decide

/-- `p` is odd. -/
theorem sgn1_neg {y : Fp} (hy : y ≠ fpZero) : sgn1 (fpNeg y) + sgn1 y = 1 := by
  have hodd : Config.p % 2 = 1 := by decide
  have hlt := y.isLt
  rw [sgn1, sgn1, fpNeg_val_of_ne_zero hy]
  omega

theorem sgn2_eq (y : Fp2) : sgn2 y = if y.a0 = fpZero then sgn1 y.a1 else sgn1 y.a0 := by
  simp only [sgn2, sgn1, fp_eq_zero_iff, ite_not]

theorem sgn2_neg {y : Fp2} (hy : y ≠ fp2Zero) : sgn2 (fp2Neg y) + sgn2 y = 1 := by
  rw [sgn2_eq, sgn2_eq]
  change (if fpNeg y.a0 = fpZero then sgn1 (fpNeg y.a1) else sgn1 (fpNeg y.a0)) + _ = 1
  by_cases h0 : y.a0 = fpZero
  · have h1 : y.a1 ≠ fpZero := fun h1 => hy ((fp2_ext_iff y fp2Zero).2 ⟨h0, h1⟩)
    rw [if_pos h0, h0, fpNeg_zero, if_pos rfl]
    exact sgn1_neg h1
  · have hneg : fpNeg y.a0 ≠ fpZero := by rwa [← toZp_injective.ne_iff, toZp_neg, toZp_zero, neg_ne_zero, Ne, toZp_eq_zero]
    rw [if_neg h0, if_neg hneg]
    exact sgn1_neg h0

/-! ## Roots, over a record of field operations -/

section
variable {F K : Type} [CommRing K] {O : FieldOps F} {φ : F → K}

theorem FieldOps.ReadsAs.neg_of_zero (hO : O.ReadsAs φ) : O.neg O.zero = O.zero :=
  hO.injective (by rw [hO.neg, hO.zero, neg_zero])

theorem FieldOps.ReadsAs.mul_self_eq_iff [IsDomain K] (hO : O.ReadsAs φ) {y z : F} :
    O.mul y y = O.mul z z ↔ y = z ∨ y = O.neg z := by
  rw [← hO.injective.eq_iff, hO.mul, hO.mul, mul_self_eq_mul_self_iff, ← hO.neg, hO.injective.eq_iff, hO.injective.eq_iff]

end

/-! ## Roots in Fp (R317) -/

theorem fpSqrt_mul_self (y : Fp) : fpSqrt (fpMul y y) ≠ none := by
  have := fact_prime_p
  have hroot : fpMul (fpPow (fpMul y y) ((Config.p + 1) / 4)) (fpPow (fpMul y y) ((Config.p + 1) / 4)) = fpMul y y := by
    apply toZp_injective
    simp only [toZp_mul, toZp_pow]
    calc (toZp y * toZp y) ^ ((Config.p + 1) / 4) * (toZp y * toZp y) ^ ((Config.p + 1) / 4)
        = toZp y ^ (4 * ((Config.p + 1) / 4)) := by ring
      _ = toZp y ^ Config.p * toZp y := by rw [show 4 * ((Config.p + 1) / 4) = Config.p + 1 by decide, pow_succ]
      _ = toZp y * toZp y := by rw [ZMod.pow_card]
  rw [fpSqrt]
  exact fun h => nomatch (if_pos hroot).symm.trans h

/-! ## Roots in Fp2 (R318) -/

theorem toK2_fp2MinusOne : toK2 fp2MinusOne = -1 := by
  rw [← toK2_one, ← toK2_neg]
  exact congrArg toK2 (by decide)

theorem charP_K2 : CharP K2 Config.p :=
  have := fact_prime_p
  letI := fieldK2
  charP_of_injective_algebraMap (algebraMap Zp K2).injective Config.p

theorem toZp_fp2Conj_mul_a0 (a : Fp2) : toZp (fp2Mul (fp2Conj a) a).a0 = QuadraticAlgebra.norm (toK2 a) := by
  simp [fp2Mul, fp2Conj, QuadraticAlgebra.norm_def, toK2]

/-- Fermat in Fp2. -/
theorem K2_pow_card_sub_one {y : K2} (hy : y ≠ 0) : y ^ (Config.p ^ 2 - 1) = 1 := by
  let := fieldK2
  have := finite_K2
  cases nonempty_fintype K2
  rw [← card_K2, Nat.card_eq_fintype_card]
  exact FiniteField.pow_card_sub_one_eq_one y hy

/-- The norm of a `(p-1)`-th power is one. -/
theorem norm_pow_p_sub_one {y : K2} (hy : y ≠ 0) : QuadraticAlgebra.norm (y ^ (Config.p - 1)) = 1 := by
  have := fact_prime_p
  have := fact_neg_one_not_square
  rw [map_pow]
  exact ZMod.pow_card_sub_one_eq_one (mt QuadraticAlgebra.norm_eq_zero_iff_eq_zero.1 hy)

/-- For `α` a `(p-1)`-th power other than `-1`, `(α + 1)^(p-1)` is its inverse: `(α + 1)^p = α^p + 1`, and `α^p·α = 1`. -/
theorem add_one_pow_p_sub_one_mul {y α : K2} (hy : y ≠ 0) (hα : α = y ^ (Config.p - 1)) (hne : α ≠ -1) :
    (α + 1) ^ (Config.p - 1) * α = 1 := by
  have := fact_prime_p
  have := charP_K2
  let := fieldK2
  have hpow : α ^ Config.p * α = 1 := by
    rw [hα, ← pow_succ, ← pow_mul, ← K2_pow_card_sub_one hy]
    exact congrArg (y ^ ·) (by decide)
  have hne' : α + 1 ≠ 0 := fun h => hne (eq_neg_of_add_eq_zero_left h)
  apply mul_left_cancel₀ hne'
  calc (α + 1) * ((α + 1) ^ (Config.p - 1) * α) = (α + 1) ^ Config.p * α := by
        rw [← mul_assoc, ← pow_succ', show Config.p - 1 + 1 = Config.p by decide]
    _ = (α + 1) * 1 := by
        rw [add_pow_char, one_pow, add_mul, hpow]
        ring

/-- The root R318 takes from `α = w^((p-1)/2)` and `x0 = w^((p+1)/4)`. -/
def fp2Root (α x0 : Fp2) : Fp2 :=
  if α = fp2MinusOne then fp2Mul (fp2OfNat 0 1) x0
  else fp2Mul (fp2Pow (fp2Add α fp2One) ((Config.p - 1) / 2)) x0

theorem fp2Root_mul_self {y α x0 : Fp2} (hy : toK2 y ≠ 0) (hα : toK2 α = toK2 y ^ (Config.p - 1))
    (hx0 : toK2 x0 * toK2 x0 = toK2 α * (toK2 y * toK2 y)) :
    fp2Mul (fp2Root α x0) (fp2Root α x0) = fp2Mul y y := by
  apply toK2_injective
  by_cases hne : α = fp2MinusOne
  · have hu : (⟨0, 1⟩ : K2) * ⟨0, 1⟩ = -1 := by ext <;> simp [QuadraticAlgebra.re_one, QuadraticAlgebra.im_one]
    rw [fp2Root, if_pos hne]
    rw [hne, toK2_fp2MinusOne] at hx0
    simp only [toK2_mul, toK2_ofNat, Nat.cast_zero, Nat.cast_one]
    rw [mul_mul_mul_comm, hu, hx0]
    ring
  · have hpow := add_one_pow_p_sub_one_mul hy hα (by rwa [← toK2_fp2MinusOne, toK2_injective.ne_iff])
    rw [fp2Root, if_neg hne]
    simp only [toK2_mul, toK2_pow, toK2_add, toK2_one]
    rw [mul_mul_mul_comm, hx0, ← pow_add, show (Config.p - 1) / 2 + (Config.p - 1) / 2 = Config.p - 1 by decide, ← mul_assoc,
      hpow, one_mul]

theorem fp2Sqrt_mul_self (y : Fp2) : fp2Sqrt (fp2Mul y y) ≠ none := by
  by_cases hw : fp2Mul y y = fp2Zero
  · rw [fp2Sqrt, if_pos hw]
    exact Option.some_ne_none _
  have hy : toK2 y ≠ 0 := fun h => hw (toK2_eq_zero.1 (by rw [toK2_mul, h, mul_zero]))
  let a1 := fp2Pow (fp2Mul y y) ((Config.p - 3) / 4)
  let α := fp2Mul (fp2Mul a1 a1) (fp2Mul y y)
  let x0 := fp2Mul a1 (fp2Mul y y)
  have hα : toK2 α = toK2 y ^ (Config.p - 1) := by
    simp only [α, a1, toK2_mul, toK2_pow]
    calc (toK2 y * toK2 y) ^ ((Config.p - 3) / 4) * (toK2 y * toK2 y) ^ ((Config.p - 3) / 4) * (toK2 y * toK2 y)
        = toK2 y ^ (4 * ((Config.p - 3) / 4) + 2) := by ring
      _ = toK2 y ^ (Config.p - 1) := by rw [show 4 * ((Config.p - 3) / 4) + 2 = Config.p - 1 by decide]
  have hx0 : toK2 x0 * toK2 x0 = toK2 α * (toK2 y * toK2 y) := by
    simp only [x0, α, toK2_mul]
    ring
  have hnorm : fp2Mul (fp2Conj α) α ≠ fp2MinusOne := by
    intro h
    have hone := toZp_fp2Conj_mul_a0 α
    rw [h, hα, norm_pow_p_sub_one hy] at hone
    exact absurd (toZp_injective (hone.trans toZp_one.symm)) (by decide)
  have hroot := fp2Root_mul_self hy hα hx0
  rw [fp2Sqrt, if_neg hw]
  exact fun h => nomatch ((if_neg hnorm).trans (if_pos hroot)).symm.trans h

end Sys2Proof.Machine
end

section
/-! SUPPORT. The point encodings over any coordinate field (`46_point_encoding.md` R314 to R318): both forms are the same decoder at Fp and
at Fp2, so that a string decodes to a point exactly when the point is on the curve and the string is its encoding is proved once. -/

namespace Sys2Proof.Machine

theorem checkedPoint_ok_iff {F : Type} {onCurve : Point F → Bool} {x y : F} {A : Point F} :
    checkedPoint onCurve x y = .ok A ↔ A = .affine x y ∧ onCurve A = true := by
  unfold checkedPoint
  split
  · next h =>
    rw [Except.ok.injEq, eq_comm]
    exact ⟨fun hA => ⟨hA, hA ▸ h⟩, And.left⟩
  · next h => exact ⟨nofun, fun hA => absurd (hA.1 ▸ hA.2) h⟩

/-! ## What the encodings take from the coordinate field -/

/-- Coordinates are strings of `n` bytes: `dec` inverts `enc` and refuses every other string, zero is the zero string, and the
sign bit is free. -/
def IsCoding {F : Type} (zero : F) (n : Nat) (enc : F → List Byte) (dec : List Byte → Except Exn F) : Prop :=
  0 < n ∧ (∀ a, (enc a).length = n) ∧ (∀ B, B.length = n → ∀ a, dec B = .ok a ↔ enc a = B) ∧ RaisesNonCanonical dec ∧
    enc zero = zeros n ∧ ∀ a, getSign (enc a) = 0

/-- Of `y` and `-y` exactly one has sign 0, unless `y` is zero (R316). -/
def IsSign {F : Type} (O : FieldOps F) (sgn : F → Nat) : Prop :=
  sgn O.zero = 0 ∧ ∀ y, y ≠ O.zero → sgn (O.neg y) + sgn y = 1

/-- `sqrt` gives a root of every square and of nothing else (R317, R318). -/
def FindsRoots {F : Type} (O : FieldOps F) (sqrt : F → Option F) : Prop :=
  (∀ w y, sqrt w = some y → O.mul y y = w) ∧ ∀ y, sqrt (O.mul y y) ≠ none

/-! ## The two forms -/

section
variable {F : Type} [DecidableEq F] (O : FieldOps F) (b : F) (n : Nat)

/-- `x³ + b`. -/
def curveCubic (x : F) : F := O.add (O.mul (O.mul x x) x) b

/-- `DecG1`, `DecG2` (R314, R315). -/
def decPointBy (dec : List Byte → Except Exn F) (B : List Byte) : Except Exn (Point F) :=
  if B = zeros (2 * n) then .ok .infinity
  else do
    let x ← dec (bytesFrom B 0 n)
    let y ← dec (bytesFrom B n (2 * n))
    checkedPoint (pointOnCurve O b) x y

/-- `DecG1C`, `DecG2C` (R317, R318). -/
def decSignedBy (dec : List Byte → Except Exn F) (sgn : F → Nat) (sqrt : F → Option F) (B : List Byte) :
    Except Exn (Point F) :=
  if B = zeros n then .ok .infinity
  else do
    let x ← dec (putSign 0 B)
    withSign O.zero O.neg sgn (getSign B) x (sqrt (curveCubic O b x))

end

/-- `EncG1`, `EncG2` (R314, R315). -/
def encPointBy {F : Type} (n : Nat) (enc : F → List Byte) : Point F → List Byte
  | .infinity => zeros (2 * n)
  | .affine x y => enc x ++ enc y

/-- `EncG1C`, `EncG2C` (R317, R318). -/
def encSignedBy {F : Type} (n : Nat) (enc : F → List Byte) (sgn : F → Nat) : Point F → List Byte
  | .infinity => zeros n
  | .affine x y => putSign (sgn y) (enc x)

/-! ## Coordinates -/

section
variable {F : Type} {zero : F} {n : Nat} {enc : F → List Byte} {dec : List Byte → Except Exn F} (hc : IsCoding zero n enc dec)
include hc

theorem IsCoding.length_eq (a : F) : (enc a).length = n := by
  obtain ⟨-, hlen, -⟩ := hc
  exact hlen a

theorem IsCoding.dec_ok_iff {B : List Byte} (hB : B.length = n) (a : F) : dec B = .ok a ↔ enc a = B := by
  obtain ⟨-, -, hok, -⟩ := hc
  exact hok B hB a

theorem IsCoding.raises : RaisesNonCanonical dec := by
  obtain ⟨-, -, -, hraises, -⟩ := hc
  exact hraises

theorem IsCoding.enc_zero : enc zero = zeros n := by
  obtain ⟨-, -, -, -, hzero, -⟩ := hc
  exact hzero

/-- A string is a coordinate with a sign exactly when it has that sign and the coordinate below it. -/
theorem IsCoding.putSign_eq_iff {S : Nat} (hS : S < 2) {B : List Byte} (x : F) :
    putSign S (enc x) = B ↔ putSign 0 B = enc x ∧ getSign B = S := by
  obtain ⟨hpos, hlen, -, -, -, hsign⟩ := hc
  exact Machine.putSign_eq_iff hS ((hlen x).symm ▸ hpos) (hsign x)

theorem IsCoding.enc_eq_zeros_iff (x : F) : enc x = zeros n ↔ x = zero := by
  refine ⟨fun hx => ?_, fun hx => hx ▸ hc.enc_zero⟩
  have hdec := (hc.dec_ok_iff (zeros_length n) x).2 hx
  rw [(hc.dec_ok_iff (zeros_length n) zero).2 hc.enc_zero] at hdec
  exact (Except.ok.inj hdec).symm

theorem IsCoding.encAffine_eq_zeros_iff (x y : F) : enc x ++ enc y = zeros (2 * n) ↔ x = zero ∧ y = zero := by
  have hlen : (enc x).length = (zeros n).length := by rw [hc.length_eq, zeros_length]
  rw [two_mul, ← zeros_append, List.append_eq_append_iff_of_size_eq_left hlen, hc.enc_eq_zeros_iff, hc.enc_eq_zeros_iff]

/-- The two coordinates decode exactly when the string is their encodings. -/
theorem IsCoding.decPair_ok_iff {B : List Byte} (hB : B.length = 2 * n) (x y : F) :
    dec (bytesFrom B 0 n) = .ok x ∧ dec (bytesFrom B n (2 * n)) = .ok y ↔ enc x ++ enc y = B := by
  rw [hc.dec_ok_iff (by rw [bytesFrom_length (by omega), Nat.sub_zero]),
    hc.dec_ok_iff (by rw [bytesFrom_length hB.ge]; omega), append_eq_iff_bytesFrom (hc.length_eq x) hB, eq_comm,
    eq_comm (a := enc y)]

end

theorem IsSign.lt_two {F : Type} {O : FieldOps F} {sgn : F → Nat} (hs : IsSign O sgn) (y : F) : sgn y < 2 := by
  obtain ⟨hzero, hneg⟩ := hs
  by_cases hy : y = O.zero
  · rw [hy, hzero]
    decide
  · have := hneg y hy
    omega

section
variable {F : Type} [DecidableEq F] {O : FieldOps F} {b : F} {n : Nat} {enc : F → List Byte}
  {dec : List Byte → Except Exn F} {B : List Byte}

theorem pointOnCurve_affine_iff (x y : F) :
    pointOnCurve O b (.affine x y) = true ↔ O.mul y y = curveCubic O b x := decide_eq_true_iff

/-! ## The uncompressed form -/

section
variable (hc : IsCoding O.zero n enc dec)
include hc

/-- As no point has abscissa 0, the zero string is free for the identity. -/
theorem decPointBy_ok_iff (hoff : ∀ y, ¬ pointOnCurve O b (.affine O.zero y) = true) (hB : B.length = 2 * n) (A : Point F) :
    decPointBy O b n dec B = .ok A ↔ pointOnCurve O b A = true ∧ encPointBy n enc A = B := by
  by_cases hz : B = zeros (2 * n)
  · rw [decPointBy, if_pos hz, Except.ok.injEq, hz]
    cases A with
    | infinity => exact ⟨fun _ => ⟨rfl, rfl⟩, fun _ => rfl⟩
    | affine x y =>
      refine ⟨nofun, fun ⟨hA, henc⟩ => ?_⟩
      obtain ⟨rfl, rfl⟩ := (hc.encAffine_eq_zeros_iff x y).1 henc
      exact absurd hA (hoff _)
  · rw [decPointBy, if_neg hz]
    simp only [bind_ok, checkedPoint_ok_iff]
    constructor
    · rintro ⟨x, hx, y, hy, rfl, hA⟩
      exact ⟨hA, (hc.decPair_ok_iff hB x y).1 ⟨hx, hy⟩⟩
    · rintro ⟨hA, henc⟩
      cases A with
      | infinity => exact absurd henc.symm hz
      | affine x y =>
        obtain ⟨hx, hy⟩ := (hc.decPair_ok_iff hB x y).2 henc
        exact ⟨x, hx, y, hy, rfl, hA⟩

/-- A pair off the curve, other than the zero string. -/
theorem decPointBy_of_offCurve {x y : F} (hxy : ¬ (x = O.zero ∧ y = O.zero))
    (hA : pointOnCurve O b (.affine x y) = false) : decPointBy O b n dec (enc x ++ enc y) = .error .notOnCurve := by
  have hlen : (enc x ++ enc y).length = 2 * n := by rw [List.length_append, hc.length_eq, hc.length_eq, two_mul]
  obtain ⟨hx, hy⟩ := (hc.decPair_ok_iff hlen x y).2 rfl
  rw [decPointBy, if_neg (mt (hc.encAffine_eq_zeros_iff x y).1 hxy), hx, hy]
  exact if_neg (Bool.eq_false_iff.1 hA)

/-- A string that is no pair of coordinates. -/
theorem decPointBy_of_nonCanonical (hB : B.length = 2 * n) (hne : ∀ x y, enc x ++ enc y ≠ B) :
    decPointBy O b n dec B = .error .nonCanonical := by
  have hz : B ≠ zeros (2 * n) := fun hz => hne _ _ (((hc.encAffine_eq_zeros_iff _ _).2 ⟨rfl, rfl⟩).trans hz.symm)
  rw [decPointBy, if_neg hz]
  cases hx : dec (bytesFrom B 0 n) with
  | error x => rw [hc.raises _ x hx]; rfl
  | ok x =>
    rw [hc.raises.error fun y hy => hne x y ((hc.decPair_ok_iff hB x y).1 ⟨hx, hy⟩)]
    rfl

end

/-! ## The sign step -/

variable {sgn : F → Nat} {sqrt : F → Option F}

/-- The sign step selects the root of that sign, whichever root it is given. -/
theorem withSign_ok_iff {K : Type} [CommRing K] [IsDomain K] {φ : F → K} (hO : O.ReadsAs φ) (hs : IsSign O sgn)
    (hr : FindsRoots O sqrt) {S : Nat} (hS : S < 2) (x : F) (A : Point F) :
    withSign O.zero O.neg sgn S x (sqrt (curveCubic O b x)) = .ok A ↔
      ∃ y, A = .affine x y ∧ pointOnCurve O b A = true ∧ sgn y = S := by
  obtain ⟨hsound, hcomplete⟩ := hr
  obtain ⟨hsgnZero, hsgnNeg⟩ := hs
  cases hroot : sqrt (curveCubic O b x) with
  | none =>
    refine ⟨nofun, ?_⟩
    rintro ⟨y, rfl, hA, -⟩
    rw [← (pointOnCurve_affine_iff x y).1 hA] at hroot
    exact absurd hroot (hcomplete y)
  | some r =>
    have hcurve (y : F) : pointOnCurve O b (.affine x y) = true ↔ y = r ∨ y = O.neg r := by
      rw [pointOnCurve_affine_iff, ← hsound _ r hroot, hO.mul_self_eq_iff]
    have hsgn : (∃ y, A = .affine x y ∧ pointOnCurve O b A = true ∧ sgn y = S) ↔
        A = .affine x r ∧ sgn r = S ∨ A = .affine x (O.neg r) ∧ sgn (O.neg r) = S := by
      constructor
      · rintro ⟨y, rfl, hA, hy⟩
        obtain rfl | rfl := (hcurve y).1 hA
        · exact .inl ⟨rfl, hy⟩
        · exact .inr ⟨rfl, hy⟩
      · rintro (⟨rfl, hy⟩ | ⟨rfl, hy⟩)
        · exact ⟨r, rfl, (hcurve r).2 (.inl rfl), hy⟩
        · exact ⟨_, rfl, (hcurve _).2 (.inr rfl), hy⟩
    rw [hsgn, withSign]
    by_cases hzero : r = O.zero
    · rw [if_pos hzero, hzero, hO.neg_of_zero, hsgnZero, or_self, eq_comm (a := A)]
      obtain rfl | rfl : S = 0 ∨ S = 1 := by omega
      · simp
      · simp
    · have hneg := hsgnNeg r hzero
      rw [if_neg hzero]
      by_cases hsame : sgn r = S
      · rw [if_neg (not_not.2 hsame)]
        simp [hsame, eq_comm (a := A), show sgn (O.neg r) ≠ S by omega]
      · rw [if_pos hsame]
        simp [hsame, eq_comm (a := A), show sgn (O.neg r) = S by omega]

/-! ## The compressed form -/

section
variable (hc : IsCoding O.zero n enc dec)
include hc

theorem decSignedBy_ok_iff {K : Type} [CommRing K] [IsDomain K] {φ : F → K} (hO : O.ReadsAs φ) (hs : IsSign O sgn)
    (hr : FindsRoots O sqrt) (hoff : ∀ y, ¬ pointOnCurve O b (.affine O.zero y) = true) (hB : B.length = n) (A : Point F) :
    decSignedBy O b n dec sgn sqrt B = .ok A ↔ pointOnCurve O b A = true ∧ encSignedBy n enc sgn A = B := by
  by_cases hz : B = zeros n
  · rw [decSignedBy, if_pos hz, Except.ok.injEq, hz]
    cases A with
    | infinity => exact ⟨fun _ => ⟨rfl, rfl⟩, fun _ => rfl⟩
    | affine x y =>
      refine ⟨nofun, fun ⟨hA, henc⟩ => ?_⟩
      obtain ⟨hx, -⟩ := (hc.putSign_eq_iff (hs.lt_two y) x).1 henc
      rw [putSign_zeros] at hx
      obtain rfl := (hc.enc_eq_zeros_iff x).1 hx.symm
      exact absurd hA (hoff y)
  · have hlen : (putSign 0 B).length = n := (putSign_length 0 B).trans hB
    rw [decSignedBy, if_neg hz]
    simp only [bind_ok, hc.dec_ok_iff hlen, withSign_ok_iff hO hs hr (getSign_lt B)]
    constructor
    · rintro ⟨x, hx, y, rfl, hA, hy⟩
      exact ⟨hA, (hc.putSign_eq_iff (hs.lt_two y) x).2 ⟨hx.symm, hy.symm⟩⟩
    · rintro ⟨hA, henc⟩
      cases A with
      | infinity => exact absurd henc.symm hz
      | affine x y =>
        obtain ⟨hx, hy⟩ := (hc.putSign_eq_iff (hs.lt_two y) x).1 henc
        exact ⟨x, hx.symm, y, rfl, hA, hy.symm⟩

/-- An abscissa of no point, in a string other than the zero string. -/
theorem decSignedBy_of_offCurve (hr : FindsRoots O sqrt) (hB : B.length = n) (hz : B ≠ zeros n) {x : F}
    (hx : enc x = putSign 0 B) (hA : ∀ y, ¬ pointOnCurve O b (.affine x y) = true) :
    decSignedBy O b n dec sgn sqrt B = .error .notOnCurve := by
  have hroot : sqrt (curveCubic O b x) = none :=
    Option.eq_none_iff_forall_ne_some.2 fun y hy => hA y ((pointOnCurve_affine_iff x y).2 (hr.1 _ y hy))
  rw [decSignedBy, if_neg hz, (hc.dec_ok_iff ((putSign_length 0 B).trans hB) x).2 hx]
  change withSign _ _ _ _ _ (sqrt (curveCubic O b x)) = _
  rw [hroot]
  rfl

/-- A string that holds no abscissa below the sign bit. -/
theorem decSignedBy_of_nonCanonical (hB : B.length = n) (hne : ∀ x, enc x ≠ putSign 0 B) :
    decSignedBy O b n dec sgn sqrt B = .error .nonCanonical := by
  have hz : B ≠ zeros n := by
    rintro rfl
    exact hne O.zero (by rw [hc.enc_zero, putSign_zeros])
  have hdec := hc.raises.error fun x hx => hne x ((hc.dec_ok_iff ((putSign_length 0 B).trans hB) x).1 hx)
  rw [decSignedBy, if_neg hz, hdec]
  rfl

end

end

end Sys2Proof.Machine
end

section
/-! SUPPORT. The two coordinate fields: the encodings and decoders of points of the model are the forms at Fp and at Fp2
(`46_point_encoding.md` R314 to R318). -/

namespace Sys2Proof.Machine

/-! ## Fp -/

theorem encFp_zero : encFp fpZero = zeros 32 := be32_zero

/-- Coordinates are below `2^254`: bit 255 of a block is free. -/
theorem getSign_encFp (a : Fp) : getSign (encFp a) = 0 := by
  rw [encFp, getSign_be32, Nat.div_eq_of_lt (lt_of_lt_p a.isLt)]

theorem fp_isCoding : IsCoding fpOps.zero 32 encFp decFp :=
  ⟨by decide, encFp_length, fun _ => decFp_ok_iff, decFp_raises, encFp_zero, getSign_encFp⟩

theorem fp_isSign : IsSign fpOps sgn1 := ⟨rfl, fun _ => sgn1_neg⟩

theorem fp_findsRoots : FindsRoots fpOps fpSqrt := ⟨fun _ _ => fpSqrt_some, fpSqrt_mul_self⟩

/-- 3 is no square. -/
theorem not_onCurve1_zero (y : Fp) : ¬ onCurve1 (.affine fpZero y) = true := by
  have hcubic : curveCubic fpOps curveB fpZero = fpOfNat 3 := by decide
  rw [onCurve1, pointOnCurve_affine_iff, hcubic]
  exact fpMul_self_ne_three y

theorem encG1_eq (A : G1Point) : encG1 A = encPointBy 32 encFp A := by cases A <;> rfl

theorem decG1_eq (B : List Byte) : decG1 B = decPointBy fpOps curveB 32 decFp B := rfl

theorem encG1C_eq (A : G1Point) : encG1C A = encSignedBy 32 encFp sgn1 A := by
  cases A with
  | infinity => rfl
  | affine x y =>
    change be32 (x.val + 2 ^ 255 * sgn1 y) = putSign (sgn1 y) (be32 x.val)
    rw [putSign_be32, Nat.mod_eq_of_lt (lt_of_lt_p x.isLt)]

/-- The 32-byte string as an integer: the sign above 255 bits. -/
theorem decG1C_eq {B : List Byte} (hB : B.length = 32) : decG1C B = decSignedBy fpOps curveB 32 decFp sgn1 fpSqrt B := by
  have hput : be (putSign 0 B) = be B % 2 ^ 255 := by
    rw [← be32_be hB, putSign_be32, be_be32, be_be32]
    omega
  have hget : getSign B = be B / 2 ^ 255 := by
    have hlt := be_lt B
    rw [hB] at hlt
    rw [← be32_be hB, getSign_be32, be_be32]
    omega
  rw [decG1C, decSignedBy, hget, ← hput]
  rfl

/-! ## Fp2 -/

theorem encFp2_zero : encFp2 fp2Zero = zeros 64 := by
  change encFp fpZero ++ encFp fpZero = _
  rw [encFp_zero, zeros_append]

theorem getSign_encFp2 (a : Fp2) : getSign (encFp2 a) = 0 := by
  rw [encFp2, encFp, getSign_be32_append, Nat.div_eq_of_lt (lt_of_lt_p a.a1.isLt)]

theorem fp2_isCoding : IsCoding fp2Ops.zero 64 encFp2 decFp2 :=
  ⟨by decide, encFp2_length, fun _ => decFp2_ok_iff, decFp2_raises, encFp2_zero, getSign_encFp2⟩

theorem fp2_isSign : IsSign fp2Ops sgn2 := ⟨rfl, fun _ => sgn2_neg⟩

theorem fp2_findsRoots : FindsRoots fp2Ops fp2Sqrt := ⟨fun _ _ => fp2Sqrt_some, fp2Sqrt_mul_self⟩

/-- `b'` is no square. -/
theorem not_onCurve2_zero (y : Fp2) : ¬ onCurve2 (.affine fp2Zero y) = true := by
  have hcubic : curveCubic fp2Ops twistB fp2Zero = twistB := by decide
  rw [onCurve2, pointOnCurve_affine_iff, hcubic]
  exact fp2Mul_self_ne_twistB y

theorem encG2_eq (A : G2Point) : encG2 A = encPointBy 64 encFp2 A := by cases A <;> rfl

theorem decG2_eq (B : List Byte) : decG2 B = decPointBy fp2Ops twistB 64 decFp2 B := rfl

theorem encG2C_eq (A : G2Point) : encG2C A = encSignedBy 64 encFp2 sgn2 A := by cases A <;> rfl

theorem decG2C_eq (B : List Byte) : decG2C B = decSignedBy fp2Ops twistB 64 decFp2 sgn2 fp2Sqrt B := rfl

end Sys2Proof.Machine
end

section
/-! The round trips (`46_point_encoding.md` R322): each form decodes a string of its length exactly when the string is the encoding;
and what the decoders of points raise on the others (R320). -/

namespace Sys2Proof.Machine

theorem decG1_ok_iff {B : List Byte} (hB : B.length = 64) (A : G1Point) :
    decG1 B = .ok A ↔ onCurve1 A = true ∧ encG1 A = B := by
  rw [decG1_eq, encG1_eq]
  exact decPointBy_ok_iff fp_isCoding not_onCurve1_zero hB A

theorem decG1C_ok_iff {B : List Byte} (hB : B.length = 32) (A : G1Point) :
    decG1C B = .ok A ↔ onCurve1 A = true ∧ encG1C A = B := by
  have := isDomain_Zp
  rw [decG1C_eq hB, encG1C_eq]
  exact decSignedBy_ok_iff fp_isCoding fpOps_readsAs fp_isSign fp_findsRoots not_onCurve1_zero hB A

theorem decG2_ok_iff {B : List Byte} (hB : B.length = 128) (A : G2Point) :
    decG2 B = .ok A ↔ onCurve2 A = true ∧ encG2 A = B := by
  rw [decG2_eq, encG2_eq]
  exact decPointBy_ok_iff fp2_isCoding not_onCurve2_zero hB A

theorem decG2C_ok_iff {B : List Byte} (hB : B.length = 64) (A : G2Point) :
    decG2C B = .ok A ↔ onCurve2 A = true ∧ encG2C A = B := by
  have := isDomain_K2
  rw [decG2C_eq, encG2C_eq]
  exact decSignedBy_ok_iff fp2_isCoding fp2Ops_readsAs fp2_isSign fp2_findsRoots not_onCurve2_zero hB A

theorem decG1_of_offCurve {x y : Fp} (hxy : ¬ (x = fpZero ∧ y = fpZero)) (hA : onCurve1 (.affine x y) = false) :
    decG1 (encG1 (.affine x y)) = .error .notOnCurve := decPointBy_of_offCurve fp_isCoding hxy hA

theorem decG1_of_nonCanonical {B : List Byte} (hB : B.length = 64) (hne : ∀ x y, encG1 (.affine x y) ≠ B) :
    decG1 B = .error .nonCanonical := decPointBy_of_nonCanonical fp_isCoding hB hne

theorem decG1C_of_offCurve {B : List Byte} (hB : B.length = 32) (hz : B ≠ zeros 32) {x : Fp}
    (hx : encFp x = putSign 0 B) (hA : ∀ y, ¬ onCurve1 (.affine x y) = true) : decG1C B = .error .notOnCurve :=
  (decG1C_eq hB).trans (decSignedBy_of_offCurve fp_isCoding fp_findsRoots hB hz hx hA)

theorem decG1C_of_nonCanonical {B : List Byte} (hB : B.length = 32) (hne : ∀ x, encFp x ≠ putSign 0 B) :
    decG1C B = .error .nonCanonical :=
  (decG1C_eq hB).trans (decSignedBy_of_nonCanonical fp_isCoding hB hne)

theorem decG2_of_offCurve {x y : Fp2} (hxy : ¬ (x = fp2Zero ∧ y = fp2Zero)) (hA : onCurve2 (.affine x y) = false) :
    decG2 (encG2 (.affine x y)) = .error .notOnCurve := decPointBy_of_offCurve fp2_isCoding hxy hA

theorem decG2_of_nonCanonical {B : List Byte} (hB : B.length = 128) (hne : ∀ x y, encG2 (.affine x y) ≠ B) :
    decG2 B = .error .nonCanonical := decPointBy_of_nonCanonical fp2_isCoding hB hne

theorem decG2C_of_offCurve {B : List Byte} (hB : B.length = 64) (hz : B ≠ zeros 64) {x : Fp2}
    (hx : encFp2 x = putSign 0 B) (hA : ∀ y, ¬ onCurve2 (.affine x y) = true) : decG2C B = .error .notOnCurve :=
  (decG2C_eq B).trans (decSignedBy_of_offCurve fp2_isCoding fp2_findsRoots hB hz hx hA)

theorem decG2C_of_nonCanonical {B : List Byte} (hB : B.length = 64) (hne : ∀ x, encFp2 x ≠ putSign 0 B) :
    decG2C B = .error .nonCanonical :=
  (decG2C_eq B).trans (decSignedBy_of_nonCanonical fp2_isCoding hB hne)

/-- Settles O25: both directions of the eight equivalences. -/
theorem encodingRoundTrips : Obligations.EncodingRoundTrips :=
  ⟨fun a => (decFp_ok_iff (encFp_length a) a).2 rfl, fun a => (decFp2_ok_iff (encFp2_length a) a).2 rfl,
    fun a => (decFp6_ok_iff (encFp6_length a) a).2 rfl, fun a => (decFp12_ok_iff (encFp12_length a) a).2 rfl,
    fun A hA => ⟨(decG1_ok_iff (encG1_length A) A).2 ⟨hA, rfl⟩, (decG1C_ok_iff (encG1C_length A) A).2 ⟨hA, rfl⟩⟩,
    fun A hA => ⟨(decG2_ok_iff (encG2_length A) A).2 ⟨hA, rfl⟩, (decG2C_ok_iff (encG2C_length A) A).2 ⟨hA, rfl⟩⟩,
    fun _ =>
      ⟨fun a hB => (decFp_ok_iff hB a).1, fun a hB => (decFp2_ok_iff hB a).1, fun a hB => (decFp6_ok_iff hB a).1,
        fun a hB => (decFp12_ok_iff hB a).1, fun A hB hdec => ((decG1_ok_iff hB A).1 hdec).2,
        fun A hB hdec => ((decG1C_ok_iff hB A).1 hdec).2, fun A hB hdec => ((decG2_ok_iff hB A).1 hdec).2,
        fun A hB hdec => ((decG2C_ok_iff hB A).1 hdec).2⟩⟩

end Sys2Proof.Machine
end

section
/-! SUPPORT. What `LoadBytes` reads, by the 32-byte blocks of the buffer (`20_memory.md` R74, R77); and the loads on a string that their
decoder accepts or refuses. -/

namespace Sys2Proof.Machine

/-! ## Blocks -/

theorem memReadBytes_add (m : List Host.Cell) (a k n : Nat) :
    memReadBytes m a (k + n) = memReadBytes m a k ++ memReadBytes m (a + k) n := by
  induction k generalizing a with
  | zero => simp [memReadBytes]
  | succ k ih =>
    rw [Nat.succ_add, memReadBytes, memReadBytes, ih, List.cons_append, Nat.add_right_comm a 1 k]
    rfl

theorem buffer_eq_memReadBytes (s : State) (i n : Nat) : s.buffer i n = memReadBytes s.mem (iobufBase + i) n := by
  simp only [memReadBytes_eq_map, Nat.add_assoc]
  rfl

theorem buffer_length (s : State) (i n : Nat) : (s.buffer i n).length = n := by
  rw [buffer_eq_memReadBytes, memReadBytes_length]

theorem block_lt (s : State) (j : Nat) : s.block j < 2 ^ 256 := by
  simpa [State.block, buffer_length] using be_lt (s.buffer (32 * j) 32)

theorem be32_block (s : State) (j : Nat) : be32 (s.block j) = memReadBytes s.mem (iobufBase + 32 * j) 32 := by
  rw [State.block, be32_be (buffer_length s _ 32), buffer_eq_memReadBytes]

/-- The first `m` blocks of the buffer as a string. -/
def State.blockBytes (s : State) (m : Nat) : List Byte := ((List.range m).map s.block).flatMap be32

theorem blockBytes_succ (s : State) (m : Nat) : s.blockBytes (m + 1) = s.blockBytes m ++ be32 (s.block m) := by
  simp [State.blockBytes, List.range_succ]

theorem memReadBytes_eq_blockBytes (s : State) (m : Nat) : memReadBytes s.mem iobufBase (32 * m) = s.blockBytes m := by
  induction m with
  | zero => rfl
  | succ m ih => rw [Nat.mul_succ, memReadBytes_add, ih, blockBytes_succ, be32_block]

theorem blockBytes_length (s : State) (m : Nat) : (s.blockBytes m).length = 32 * m := by
  rw [← memReadBytes_eq_blockBytes, memReadBytes_length]

theorem loadBytes_of_iolen {s : State} {m : Nat} (h : s.iolen.toNat = 32 * m) :
    loadBytes s (32 * m) = .ok (s.blockBytes m) := by
  rw [loadBytes, if_neg (not_not.2 h), memReadBytes_eq_blockBytes]

theorem blockBytes_one (s : State) : s.blockBytes 1 = be32 (s.block 0) := List.append_nil _

theorem blockBytes_two (s : State) : s.blockBytes 2 = be32 (s.block 0) ++ be32 (s.block 1) := by
  rw [blockBytes_succ, blockBytes_one]

/-- Blocks of integers below `2^256` determine the integers. -/
theorem flatMap_be32_injective {vs ws : List Nat} (hvs : ∀ v ∈ vs, v < 2 ^ 256) (hws : ∀ w ∈ ws, w < 2 ^ 256)
    (hlen : vs.length = ws.length) (h : vs.flatMap be32 = ws.flatMap be32) : vs = ws := by
  induction vs generalizing ws with
  | nil => exact (List.length_eq_zero_iff.1 hlen.symm).symm
  | cons v vs ih =>
    obtain ⟨w, ws, rfl⟩ := List.exists_cons_of_length_eq_add_one hlen.symm
    rw [List.forall_mem_cons] at hvs hws
    rw [List.flatMap_cons, List.flatMap_cons] at h
    obtain ⟨hhead, htail⟩ := List.append_inj h (by rw [be32_length, be32_length])
    rw [(be32_inj hvs.1 hws.1).1 hhead, ih hvs.2 hws.2 (Nat.succ.inj hlen) htail]

/-- The string is the blocks of these coordinates exactly when the blocks hold them. -/
theorem fpBlocks_eq_blockBytes_iff {s : State} {cs : List Fp} {m : Nat} (hm : cs.length = m) :
    fpBlocks cs = s.blockBytes m ↔ s.blocksAre cs := by
  subst hm
  have hcs : fpBlocks cs = (cs.map (fun c => c.val)).flatMap be32 := by rw [fpBlocks, List.flatMap_map]
  rw [hcs, State.blockBytes]
  constructor
  · intro h
    exact (flatMap_be32_injective (List.forall_mem_map.2 fun c _ => val_lt_block c)
      (List.forall_mem_map.2 fun j _ => block_lt s j) (by simp) h).symm
  · intro h
    rw [h]

theorem block_lt_p_of_blocksAre {s : State} {cs : List Fp} (h : s.blocksAre cs) {j : Nat} (hj : j < cs.length) :
    s.block j < Config.p := by
  have hmem : s.block j ∈ cs.map (fun c => c.val) := h ▸ List.mem_map_of_mem (List.mem_range.2 hj)
  obtain ⟨c, -, hc⟩ := List.mem_map.1 hmem
  rw [← hc]
  exact c.isLt

/-- A string with a block at or above `p` is no encoding. -/
theorem fpBlocks_ne_blockBytes {s : State} {j m : Nat} (hj : j < m) (hp : Config.p ≤ s.block j) {cs : List Fp}
    (hm : cs.length = m) : fpBlocks cs ≠ s.blockBytes m := fun h =>
  (block_lt_p_of_blocksAre ((fpBlocks_eq_blockBytes_iff hm).1 h) (hm ▸ hj)).not_ge hp

/-! ## Loads -/

theorem raised_nonCanonical (s : State) : s.raised .nonCanonical = s.afterRaise 0x01 2 0 :=
  raised_eq_afterRaise s .nonCanonical

theorem raised_notOnCurve (s : State) : s.raised .notOnCurve = s.afterRaise 0x02 0 0 := raised_eq_afterRaise s .notOnCurve

section
variable {s : State} {m : Nat} (hlen : s.iolen.toNat = 32 * m)
include hlen

theorem eLoad_of_ok {α : Type} {dec : List Byte → Except Exn α} (tag : α → EVal) (rd : EIdx) {a : α}
    (hdec : dec (s.blockBytes m) = .ok a) : eLoad (32 * m) dec tag rd s = .next (s.afterE rd (tag a)) :=
  State.finish_next.2 (.inl ⟨_, bind_ok.2 ⟨_, loadBytes_of_iolen hlen, bind_ok.2 ⟨a, hdec, rfl⟩⟩,
    (completed_setE s rd _).symm⟩)

theorem eLoad_of_error {α : Type} {dec : List Byte → Except Exn α} (tag : α → EVal) (rd : EIdx) {x : Exn}
    (hdec : dec (s.blockBytes m) = .error x) : eLoad (32 * m) dec tag rd s = .next (s.raised x) :=
  State.finish_next.2 (.inr ⟨x, bind_error.2 (.inr ⟨_, loadBytes_of_iolen hlen, bind_error.2 (.inl hdec)⟩), rfl⟩)

variable {x : Exn}

theorem pLoad_of_ok {dec : List Byte → Except Exn G1Point} {rd : PIdx} (hrd : rd.toNat < 8) {A : G1Point}
    (hdec : dec (s.blockBytes m) = .ok A) : pLoad (32 * m) dec rd s = .next (s.afterP rd A) := by
  obtain ⟨d, hd, hend⟩ := pIdx_of_lt hrd
  exact State.finish_next.2 (.inl ⟨_,
    bind_ok.2 ⟨d, hd, bind_ok.2 ⟨_, loadBytes_of_iolen hlen, bind_ok.2 ⟨A, hdec, rfl⟩⟩⟩, hend s A⟩)

theorem pLoad_of_error {dec : List Byte → Except Exn G1Point} {rd : PIdx} (hrd : rd.toNat < 8)
    (hdec : dec (s.blockBytes m) = .error x) : pLoad (32 * m) dec rd s = .next (s.raised x) := by
  obtain ⟨d, hd, -⟩ := pIdx_of_lt hrd
  exact State.finish_next.2 (.inr ⟨x,
    bind_error.2 (.inr ⟨d, hd, bind_error.2 (.inr ⟨_, loadBytes_of_iolen hlen, bind_error.2 (.inl hdec)⟩)⟩), rfl⟩)

theorem qLoad_of_ok {dec : List Byte → Except Exn G2Point} {rd : QIdx} (hrd : rd.toNat < 8) {A : G2Point}
    (hdec : dec (s.blockBytes m) = .ok A) : qLoad (32 * m) dec rd s = .next (s.afterQ rd A) := by
  obtain ⟨d, hd, hend⟩ := qIdx_of_lt hrd
  exact State.finish_next.2 (.inl ⟨_,
    bind_ok.2 ⟨d, hd, bind_ok.2 ⟨_, loadBytes_of_iolen hlen, bind_ok.2 ⟨A, hdec, rfl⟩⟩⟩, hend s A⟩)

theorem qLoad_of_error {dec : List Byte → Except Exn G2Point} {rd : QIdx} (hrd : rd.toNat < 8)
    (hdec : dec (s.blockBytes m) = .error x) : qLoad (32 * m) dec rd s = .next (s.raised x) := by
  obtain ⟨d, hd, -⟩ := qIdx_of_lt hrd
  exact State.finish_next.2 (.inr ⟨x,
    bind_error.2 (.inr ⟨d, hd, bind_error.2 (.inr ⟨_, loadBytes_of_iolen hlen, bind_error.2 (.inl hdec)⟩)⟩), rfl⟩)

end

end Sys2Proof.Machine
end

section
/-! The loads of field elements and scalars (`46_point_encoding.md` R310 to R313, R319, R323 to R329, R340, R341). -/

namespace Sys2Proof.Machine

section
variable {α : Type} {dec : List Byte → Except Exn α} {enc : α → List Byte} {coords : α → List Fp} {s : State} {m : Nat}

/-- A load whose decoder inverts the blocks of the coordinates: canonical blocks load. -/
theorem eLoad_of_blocksAre (hok : ∀ {B}, B.length = 32 * m → ∀ a, dec B = .ok a ↔ enc a = B)
    (henc : ∀ a, enc a = fpBlocks (coords a)) (tag : α → EVal) (rd : EIdx) {a : α} (hcoords : (coords a).length = m)
    (hlen : s.iolen.toNat = 32 * m) (hblocks : s.blocksAre (coords a)) :
    eLoad (32 * m) dec tag rd s = .next (s.afterE rd (tag a)) := by
  refine eLoad_of_ok hlen tag rd ((hok (blockBytes_length s m) a).2 ?_)
  rw [henc, fpBlocks_eq_blockBytes_iff hcoords]
  exact hblocks

/-- And a block at or above `p` raises. -/
theorem eLoad_of_block_ge (hok : ∀ {B}, B.length = 32 * m → ∀ a, dec B = .ok a ↔ enc a = B)
    (henc : ∀ a, enc a = fpBlocks (coords a)) (hraises : RaisesNonCanonical dec) (tag : α → EVal) (rd : EIdx)
    (hcoords : ∀ a, (coords a).length = m) {j : Nat} (hj : j < m) (hlen : s.iolen.toNat = 32 * m)
    (hp : Config.p ≤ s.block j) : eLoad (32 * m) dec tag rd s = .next (s.afterRaise 0x01 2 0) := by
  rw [← raised_nonCanonical]
  refine eLoad_of_error hlen tag rd (hraises.error fun a ha => ?_)
  rw [hok (blockBytes_length s m), henc] at ha
  exact fpBlocks_ne_blockBytes hj hp (hcoords a) ha

end

/-- Settles O16: each decoder inverts the blocks of the coordinates and raises on every other string. -/
theorem fieldLoads : Obligations.FieldLoads := by
  intro s rd
  refine ⟨fun a hlen => ?fp, fun a hlen => ?fp2, fun a hlen => ?fp6, fun a hlen => ?fp12, fun hlen => ?fpBad,
    fun j hj hlen => ?fp2Bad, fun j hj hlen => ?fp6Bad, fun j hj hlen => ?fp12Bad⟩
  case fp => exact eLoad_of_blocksAre (m := 1) decFp_ok_iff encFp_eq_fpBlocks .fp rd rfl (congrArg BitVec.toNat hlen)
  case fp2 => exact eLoad_of_blocksAre (m := 2) decFp2_ok_iff encFp2_eq_fpBlocks .fp2 rd rfl (congrArg BitVec.toNat hlen)
  case fp6 => exact eLoad_of_blocksAre (m := 6) decFp6_ok_iff encFp6_eq_fpBlocks .fp6 rd rfl (congrArg BitVec.toNat hlen)
  case fp12 =>
    exact eLoad_of_blocksAre (m := 12) decFp12_ok_iff encFp12_eq_fpBlocks .fp12 rd rfl (congrArg BitVec.toNat hlen)
  case fpBad =>
    exact eLoad_of_block_ge (m := 1) decFp_ok_iff encFp_eq_fpBlocks decFp_raises .fp rd (fun _ => rfl) (by decide)
      (congrArg BitVec.toNat hlen)
  case fp2Bad =>
    exact eLoad_of_block_ge (m := 2) decFp2_ok_iff encFp2_eq_fpBlocks decFp2_raises .fp2 rd (fun _ => rfl) hj
      (congrArg BitVec.toNat hlen)
  case fp6Bad =>
    exact eLoad_of_block_ge (m := 6) decFp6_ok_iff encFp6_eq_fpBlocks decFp6_raises .fp6 rd (fun _ => rfl) hj
      (congrArg BitVec.toNat hlen)
  case fp12Bad =>
    exact eLoad_of_block_ge (m := 12) decFp12_ok_iff encFp12_eq_fpBlocks decFp12_raises .fp12 rd (fun _ => rfl) hj
      (congrArg BitVec.toNat hlen)

/-- Settles O28: the scalar is the integer of block 0, whatever it is. -/
theorem scalarRegisterCommands : Obligations.ScalarRegisterCommands := by
  intro s rd hrd
  have hd : kIdx rd = .ok ⟨rd.toNat, hrd⟩ := kIdx_ok.2 rfl
  have hend (k : Option (BitVec 256)) : s.afterK rd k = (s.setK ⟨rd.toNat, hrd⟩ k).completed :=
    (completed_setK s rd _ rfl k).symm
  refine ⟨fun hlen => ?load, State.finish_next.2 (.inl ⟨_, bind_ok.2 ⟨_, hd, rfl⟩, hend none⟩)⟩
  case load =>
    have hscalar : decScalar (s.blockBytes 1) = BitVec.ofNat 256 (s.block 0) := by
      rw [blockBytes_one, decScalar, be_be32, Nat.mod_eq_of_lt (block_lt s 0)]
    rw [← hscalar]
    exact State.finish_next.2 (.inl ⟨_,
      bind_ok.2 ⟨_, hd, bind_ok.2 ⟨_, loadBytes_of_iolen (m := 1) (congrArg BitVec.toNat hlen), rfl⟩⟩, hend _⟩)

end Sys2Proof.Machine
end

section
/-! SUPPORT. Points in the buffer, block by block (`46_point_encoding.md` R314 to R318): the encodings as blocks of coordinates, and when the
string loaded is the zero string, a pair of coordinates, or an abscissa with a sign. -/

namespace Sys2Proof.Machine

/-! ## Encodings as blocks -/

theorem encG1_affine (x y : Fp) : encG1 (.affine x y) = fpBlocks [x, y] := by
  rw [encG1, encFp_eq_fpBlocks, encFp_eq_fpBlocks, ← fpBlocks_append]
  rfl

theorem encG2_affine (x y : Fp2) : encG2 (.affine x y) = fpBlocks [x.a1, x.a0, y.a1, y.a0] := by
  rw [encG2, encFp2_eq_fpBlocks, encFp2_eq_fpBlocks, ← fpBlocks_append]
  rfl

theorem encG2C_affine (x y : Fp2) :
    encG2C (.affine x y) = be32 (x.a1.val + 2 ^ 255 * sgn2 y) ++ be32 x.a0.val := by
  rw [encG2C, encFp2, encFp, putSign_be32_append, Nat.mod_eq_of_lt (lt_of_lt_p x.a1.isLt)]
  rfl

/-! ## The string loaded -/

variable {s : State}

theorem blockBytes_eq_zeros_iff (m : Nat) : s.blockBytes m = zeros (32 * m) ↔ ∀ j < m, s.block j = 0 := by
  induction m with
  | zero => exact ⟨fun _ _ hj => absurd hj (Nat.not_lt_zero _), fun _ => rfl⟩
  | succ m ih =>
    have hlast : be32 (s.block m) = zeros 32 ↔ s.block m = 0 := by
      rw [← be32_zero, be32_inj (block_lt s m) (by decide)]
    rw [blockBytes_succ, Nat.mul_succ, ← zeros_append, Nat.forall_lt_succ_right, ← ih, ← hlast]
    constructor
    · exact fun h => List.append_inj h (by rw [blockBytes_length, zeros_length])
    · rintro ⟨hinit, hlast⟩
      rw [hinit, hlast]

theorem blockBytes_one_ne_zeros (h : s.block 0 ≠ 0) : s.blockBytes 1 ≠ zeros 32 := fun hz =>
  h ((blockBytes_eq_zeros_iff 1).1 hz 0 (by decide))

theorem blockBytes_two_ne_zeros (h : ¬ (s.block 0 = 0 ∧ s.block 1 = 0)) : s.blockBytes 2 ≠ zeros 64 := fun hz =>
  have hblocks := (blockBytes_eq_zeros_iff 2).1 hz
  h ⟨hblocks 0 (by decide), hblocks 1 (by decide)⟩

theorem mod_lt_block (v : Nat) : v % 2 ^ 255 < 2 ^ 256 := (Nat.mod_lt v (by decide)).trans (by decide)

/-- The abscissa of a compressed G1 string is its low 255 bits. -/
theorem encFp_eq_putSign_iff (x : Fp) : encFp x = putSign 0 (s.blockBytes 1) ↔ s.block 0 % 2 ^ 255 = x.val := by
  rw [blockBytes_one, putSign_be32, Nat.mul_zero, Nat.add_zero, encFp, be32_inj (val_lt_block x) (mod_lt_block _), eq_comm]

/-- The abscissa of a compressed G2 string is the low 255 bits of block 0, and block 1. -/
theorem encFp2_eq_putSign_iff (x : Fp2) :
    encFp2 x = putSign 0 (s.blockBytes 2) ↔ s.block 0 % 2 ^ 255 = x.a1.val ∧ s.block 1 = x.a0.val := by
  have hlen : (encFp x.a1).length = (be32 (s.block 0 % 2 ^ 255)).length := by rw [encFp_length, be32_length]
  rw [blockBytes_two, putSign_be32_append, Nat.mul_zero, Nat.add_zero, encFp2, List.append_eq_append_iff_of_size_eq_left hlen,
    encFp, encFp, be32_inj (val_lt_block _) (mod_lt_block _), be32_inj (val_lt_block _) (block_lt s 1), eq_comm,
    eq_comm (a := x.a0.val)]

/-- A string with the abscissa of a point and the sign of its ordinate is the point's encoding. -/
theorem encG1C_eq_blockBytes {x y : Fp} (hx : s.block 0 % 2 ^ 255 = x.val) (hy : s.block 0 / 2 ^ 255 = sgn1 y) :
    encG1C (.affine x y) = s.blockBytes 1 := by
  rw [encG1C, ← hx, ← hy, Nat.mod_add_div, blockBytes_one]

/-- The same for the twist curve, with the sign above the coefficient of `u` (R318). -/
theorem encG2C_eq_blockBytes {x y : Fp2} (hx1 : s.block 0 % 2 ^ 255 = x.a1.val) (hx0 : s.block 1 = x.a0.val)
    (hy : s.block 0 / 2 ^ 255 = sgn2 y) : encG2C (.affine x y) = s.blockBytes 2 := by
  rw [encG2C_affine, ← hx1, ← hy, ← hx0, Nat.mod_add_div, blockBytes_two]

end Sys2Proof.Machine
end

section
/-! The loads of points (`46_point_encoding.md` R314 to R318, R320, R332, R334, R336, R338), each by what its decoder gives on the string
loaded. -/

namespace Sys2Proof.Machine

section
variable {s : State} {rd : PIdx} (hrd : rd.toNat < 8)
include hrd

theorem execG1Ld_of_enc (hlen : s.iolen = 64#9) {A : G1Point} (hA : onCurve1 A = true) (henc : encG1 A = s.blockBytes 2) :
    exec (.g1Ld rd) s = .next (s.afterP rd A) :=
  pLoad_of_ok (m := 2) (congrArg BitVec.toNat hlen) hrd ((decG1_ok_iff (blockBytes_length s 2) A).2 ⟨hA, henc⟩)

theorem execG1Ld_of_error (hlen : s.iolen = 64#9) {x : Exn} (hdec : decG1 (s.blockBytes 2) = .error x) :
    exec (.g1Ld rd) s = .next (s.raised x) :=
  pLoad_of_error (m := 2) (congrArg BitVec.toNat hlen) hrd hdec

theorem execG1Ldc_of_enc (hlen : s.iolen = 32#9) {A : G1Point} (hA : onCurve1 A = true)
    (henc : encG1C A = s.blockBytes 1) : exec (.g1Ldc rd) s = .next (s.afterP rd A) :=
  pLoad_of_ok (m := 1) (congrArg BitVec.toNat hlen) hrd ((decG1C_ok_iff (blockBytes_length s 1) A).2 ⟨hA, henc⟩)

theorem execG1Ldc_of_error (hlen : s.iolen = 32#9) {x : Exn} (hdec : decG1C (s.blockBytes 1) = .error x) :
    exec (.g1Ldc rd) s = .next (s.raised x) :=
  pLoad_of_error (m := 1) (congrArg BitVec.toNat hlen) hrd hdec

end

section
variable {s : State} {rd : QIdx} (hrd : rd.toNat < 8)
include hrd

theorem execG2Ld_of_enc (hlen : s.iolen = 128#9) {A : G2Point} (hA : onCurve2 A = true)
    (henc : encG2 A = s.blockBytes 4) : exec (.g2Ld rd) s = .next (s.afterQ rd A) :=
  qLoad_of_ok (m := 4) (congrArg BitVec.toNat hlen) hrd ((decG2_ok_iff (blockBytes_length s 4) A).2 ⟨hA, henc⟩)

theorem execG2Ld_of_error (hlen : s.iolen = 128#9) {x : Exn} (hdec : decG2 (s.blockBytes 4) = .error x) :
    exec (.g2Ld rd) s = .next (s.raised x) :=
  qLoad_of_error (m := 4) (congrArg BitVec.toNat hlen) hrd hdec

theorem execG2Ldc_of_enc (hlen : s.iolen = 64#9) {A : G2Point} (hA : onCurve2 A = true)
    (henc : encG2C A = s.blockBytes 2) : exec (.g2Ldc rd) s = .next (s.afterQ rd A) :=
  qLoad_of_ok (m := 2) (congrArg BitVec.toNat hlen) hrd ((decG2C_ok_iff (blockBytes_length s 2) A).2 ⟨hA, henc⟩)

theorem execG2Ldc_of_error (hlen : s.iolen = 64#9) {x : Exn} (hdec : decG2C (s.blockBytes 2) = .error x) :
    exec (.g2Ldc rd) s = .next (s.raised x) :=
  qLoad_of_error (m := 2) (congrArg BitVec.toNat hlen) hrd hdec

end

/-- Settles O23: the string loaded is the encoding of the identity or of a point, or else its decoder raises: first on blocks that
are no coordinates, then off the curve. -/
theorem g1Loads : Obligations.G1Loads := by
  intro s rd hrd
  refine ⟨fun hlen => ⟨?zero, ?bad, ?pair⟩, fun hlen => ⟨?zeroC, ?badC, ?signed, ?offC⟩⟩
  case zero =>
    intro h0 h1
    refine execG1Ld_of_enc hrd hlen rfl ((blockBytes_eq_zeros_iff 2).2 ?_).symm
    rintro (_ | _ | j) hj
    · exact h0
    · exact h1
    · omega
  case bad =>
    intro hp
    rw [← raised_nonCanonical]
    refine execG1Ld_of_error hrd hlen (decG1_of_nonCanonical (blockBytes_length s 2) fun x y => ?_)
    rw [encG1_affine]
    cases hp with
    | inl hp => exact fpBlocks_ne_blockBytes (j := 0) (by decide) hp rfl
    | inr hp => exact fpBlocks_ne_blockBytes (j := 1) (by decide) hp rfl
  case pair =>
    intro x y hblocks hxy
    have henc : encG1 (.affine x y) = s.blockBytes 2 :=
      (encG1_affine x y).trans ((fpBlocks_eq_blockBytes_iff rfl).2 hblocks)
    refine ⟨fun hcurve => execG1Ld_of_enc hrd hlen ?_ henc, fun hcurve => ?_⟩
    · rw [onCurve1_affine]
      exact decide_eq_true hcurve
    · rw [← raised_notOnCurve]
      refine execG1Ld_of_error hrd hlen ?_
      rw [← henc]
      refine decG1_of_offCurve (mt (fun h => ?_) hxy) ?_
      · exact ⟨(fp_eq_zero_iff x).1 h.1, (fp_eq_zero_iff y).1 h.2⟩
      · exact (onCurve1_affine x y).trans (decide_eq_false hcurve)
  case zeroC =>
    intro h0
    refine execG1Ldc_of_enc hrd hlen rfl ((blockBytes_eq_zeros_iff 1).2 ?_).symm
    rintro (_ | j) hj
    · exact h0
    · omega
  case badC =>
    intro hp
    rw [← raised_nonCanonical]
    refine execG1Ldc_of_error hrd hlen (decG1C_of_nonCanonical (blockBytes_length s 1) fun x hx => ?_)
    exact absurd ((encFp_eq_putSign_iff x).1 hx ▸ x.isLt) hp.not_gt
  case signed =>
    intro x y _ hx hy hcurve
    refine execG1Ldc_of_enc hrd hlen ?_ (encG1C_eq_blockBytes hx hy)
    rw [onCurve1_affine]
    exact decide_eq_true hcurve
  case offC =>
    intro x h0 hx
    refine or_iff_not_imp_left.2 fun hnone => ?_
    rw [← raised_notOnCurve]
    refine execG1Ldc_of_error hrd hlen (decG1C_of_offCurve (blockBytes_length s 1)
      (blockBytes_one_ne_zeros h0) ((encFp_eq_putSign_iff x).2 hx) fun y hy => hnone ⟨y, ?_⟩)
    exact of_decide_eq_true ((onCurve1_affine x y).symm.trans hy)

/-- Settles O24: the same over Fp2; that the sign step meets a root whenever there is one is `fp2Sqrt_mul_self`. -/
theorem g2Loads : Obligations.G2Loads := by
  intro s rd hrd
  refine ⟨fun hlen => ⟨?zero, ?bad, ?pair⟩, fun hlen => ⟨?zeroC, ?badC, ?signed, ?offC⟩⟩
  case zero =>
    intro h0 h1 h2 h3
    refine execG2Ld_of_enc hrd hlen rfl ((blockBytes_eq_zeros_iff 4).2 ?_).symm
    rintro (_ | _ | _ | _ | j) hj
    · exact h0
    · exact h1
    · exact h2
    · exact h3
    · omega
  case bad =>
    intro j hj hp
    rw [← raised_nonCanonical]
    refine execG2Ld_of_error hrd hlen (decG2_of_nonCanonical (blockBytes_length s 4) fun x y => ?_)
    rw [encG2_affine]
    exact fpBlocks_ne_blockBytes hj hp rfl
  case pair =>
    intro x y hblocks hxy
    have henc : encG2 (.affine x y) = s.blockBytes 4 :=
      (encG2_affine x y).trans ((fpBlocks_eq_blockBytes_iff rfl).2 hblocks)
    refine ⟨fun hcurve => execG2Ld_of_enc hrd hlen hcurve henc, fun hcurve => ?_⟩
    rw [← raised_notOnCurve]
    refine execG2Ld_of_error hrd hlen ?_
    rw [← henc]
    exact decG2_of_offCurve hxy hcurve
  case zeroC =>
    intro h0 h1
    refine execG2Ldc_of_enc hrd hlen rfl ((blockBytes_eq_zeros_iff 2).2 ?_).symm
    rintro (_ | _ | j) hj
    · exact h0
    · exact h1
    · omega
  case badC =>
    intro hp
    rw [← raised_nonCanonical]
    refine execG2Ldc_of_error hrd hlen (decG2C_of_nonCanonical (blockBytes_length s 2) fun x hx => ?_)
    obtain ⟨hx1, hx0⟩ := (encFp2_eq_putSign_iff x).1 hx
    cases hp with
    | inl hp => exact absurd (hx1 ▸ x.a1.isLt) hp.not_gt
    | inr hp => exact absurd (hx0 ▸ x.a0.isLt) hp.not_gt
  case signed =>
    intro x y _ hx1 hx0 hy hcurve
    exact execG2Ldc_of_enc hrd hlen hcurve (encG2C_eq_blockBytes hx1 hx0 hy)
  case offC =>
    intro x h0 hx1 hx0
    refine or_iff_not_imp_left.2 fun hnone => ?_
    rw [← raised_notOnCurve]
    exact execG2Ldc_of_error hrd hlen (decG2C_of_offCurve (blockBytes_length s 2)
      (blockBytes_two_ne_zeros h0) ((encFp2_eq_putSign_iff x).2 ⟨hx1, hx0⟩) fun y hy => hnone ⟨y, hy⟩)

end Sys2Proof.Machine
end

section
/-! The stores of points (`46_point_encoding.md` R314 to R318, R333, R335, R337, R339, `20_memory.md` R78). -/

namespace Sys2Proof.Machine

/-- A store of a valid `P` register with encoding `B`. -/
theorem pStore_stored {enc : G1Point → List Byte} {s : State} {ra : PIdx} {A : G1Point} {B : List Byte}
    (hm : memWf s.mem = true) (hA : s.holdsP ra A) (henc : enc A = B) (hlen : B.length ≤ 384) :
    ∃ t, pStore enc ra s = .next t ∧ s.stored t B := by
  subst henc
  obtain ⟨a, ha, hget⟩ := getP_of_holdsP hA
  exact ⟨_, State.finish_next.2 (.inl ⟨_, bind_ok.2 ⟨a, ha, bind_ok.2 ⟨A, hget _, rfl⟩⟩, rfl⟩),
    storeBytes_completed_stored hm hlen⟩

/-- A store of a valid `Q` register with encoding `B`. -/
theorem qStore_stored {enc : G2Point → List Byte} {s : State} {ra : QIdx} {A : G2Point} {B : List Byte}
    (hm : memWf s.mem = true) (hA : s.holdsQ ra A) (henc : enc A = B) (hlen : B.length ≤ 384) :
    ∃ t, qStore enc ra s = .next t ∧ s.stored t B := by
  subst henc
  obtain ⟨a, ha, hget⟩ := getQ_of_holdsQ hA
  exact ⟨_, State.finish_next.2 (.inl ⟨_, bind_ok.2 ⟨a, ha, bind_ok.2 ⟨A, hget _, rfl⟩⟩, rfl⟩),
    storeBytes_completed_stored hm hlen⟩

/-- Settles O22: each store is `StoreBytes` of the encoding, and the encodings are these blocks. -/
theorem pointStores : Obligations.PointStores := by
  refine ⟨fun s ra x y hm hA => ⟨?g1, ?g1c⟩, fun s ra hm hA => ⟨?g1Id, ?g1cId⟩, fun s ra x y hm hA => ⟨?g2, ?g2c⟩,
    fun s ra hm hA => ⟨?g2Id, ?g2cId⟩⟩
  case g1 => exact pStore_stored hm hA (encG1_affine x y) (by rw [← encG1_affine, encG1_length]; decide)
  case g1c => exact pStore_stored (enc := encG1C) hm hA rfl (by rw [be32_length]; decide)
  case g1Id => exact pStore_stored (enc := encG1) hm hA rfl (by rw [List.length_replicate]; decide)
  case g1cId => exact pStore_stored (enc := encG1C) hm hA rfl (by rw [List.length_replicate]; decide)
  case g2 => exact qStore_stored hm hA (encG2_affine x y) (by rw [← encG2_affine, encG2_length]; decide)
  case g2c => exact qStore_stored hm hA (encG2C_affine x y) (by rw [List.length_append, be32_length, be32_length]; decide)
  case g2Id => exact qStore_stored (enc := encG2) hm hA rfl (by rw [List.length_replicate]; decide)
  case g2cId => exact qStore_stored (enc := encG2C) hm hA rfl (by rw [List.length_replicate]; decide)

end Sys2Proof.Machine
end

section
/-! The system commands (`47_system.md` R350 to R352). -/

namespace Sys2Proof.Machine

theorem exec_nop (s : State) : exec .nop s = .next s.afterNone := by
  rw [← completed_eq_afterNone]
  exact State.finish_ok s s

theorem exec_zeroize (s : State) : exec .zeroize s = .next s.erase.completed := State.finish_ok s s.erase

/-- The check of R352 fails on EMPTY only, so `E.MOV` copies every other value with its tag. -/
theorem exec_eMov_of_holds {s : State} {ra : EIdx} {v : EVal} (rd : EIdx) (ha : s.holdsE ra v) (hne : v ≠ .empty) :
    exec (.eMov rd ra) s = .next (s.afterE rd v) := by
  obtain rfl := (holdsE_iff s ra v).1 ha
  rw [← completed_setE]
  exact congrArg s.finish (if_neg hne)

/-- Settles O6: `NOP` and `ZEROIZE` complete in every state, the latter with the erased state, and `E.MOV` on a register that is not
EMPTY. -/
theorem systemCommandsComplete : Obligations.SystemCommandsComplete := fun s =>
  ⟨exec_nop s, exec_zeroize s, fun rd _ _ => exec_eMov_of_holds rd⟩

end Sys2Proof.Machine
end

section
/-! The interrupt bits and the line (`60_exceptions.md` R376 to R379), the integrity failure (R388) and the hardware reset
(`70_reset_and_hazards.md` R401). -/

namespace Sys2Proof.Machine

/-! ## Failure and reset -/

/-- The integrity failure sets the three lower bits of `INTSTAT`. -/
theorem or_intDone_intErr_intFatal (x : BitVec 4) : x ||| intDone ||| intErr ||| intFatal = x ||| 7#4 := by
  rw [BitVec.or_assoc, BitVec.or_assoc]
  rfl

theorem State.integrityFail_of_not_fatal {s : State} (h : s.status.fatal = false) :
    s.integrityFail =
      { s.erase with
        status := { busy := false, done := true, err := true, fatal := true, tv := false, t := false }
        errinfo := fatalErrinfo
        intstat := s.intstat ||| 7#4 } := by
  rw [State.integrityFail, if_neg (Bool.eq_false_iff.1 h), or_intDone_intErr_intFatal]

/-- Settles O54: both events are whole-state updates, and the failure erases what it does not set. -/
theorem integrityFailureAndHardwareReset : Obligations.IntegrityFailureAndHardwareReset := by
  refine fun s rest => ⟨fun hin => ?_, fun hin hfatal => ?_⟩
  · rw [step_cons hin]
    rfl
  · rw [step_cons hin]
    exact congrArg Host.Outcome.next (State.integrityFail_of_not_fatal (s := s.setInputs rest) hfatal)

/-! ## The bits of `INTSTAT` -/

theorem getLsbD_intDone (b : Nat) : intDone.getLsbD b = decide (b = 0) := by
  have h : intDone = BitVec.twoPow 4 0 := rfl
  simp [h, BitVec.getLsbD_twoPow, eq_comm]

theorem getLsbD_intErr (b : Nat) : intErr.getLsbD b = decide (b = 1) := by
  have h : intErr = BitVec.twoPow 4 1 := rfl
  simp [h, BitVec.getLsbD_twoPow, eq_comm]

theorem getLsbD_intOvr (b : Nat) : intOvr.getLsbD b = decide (b = 3) := by
  have h : intOvr = BitVec.twoPow 4 3 := rfl
  simp [h, BitVec.getLsbD_twoPow, eq_comm]

/-- The bits the integrity failure sets are the three lower ones. -/
theorem getLsbD_seven {b : Nat} (h : (7#4).getLsbD b = true) : b < 3 := by
  have h7 : 7#4 = BitVec.twoPow 4 0 ||| BitVec.twoPow 4 1 ||| BitVec.twoPow 4 2 := rfl
  simp only [h7, BitVec.getLsbD_or, BitVec.getLsbD_twoPow] at h
  grind

/-- A bit that a mask has set and that was clear is a bit of the mask. -/
theorem getLsbD_of_set {x y m : BitVec 4} {b : Nat} (hy : y = x ||| m) (hx : x.getLsbD b = false)
    (hset : y.getLsbD b = true) : m.getLsbD b = true := by
  rwa [hy, BitVec.getLsbD_or, hx, Bool.false_or] at hset

/-- A mask that is set clears nothing. -/
theorem not_cleared_of_or {x y m : BitVec 4} {b : Nat} (hy : y = x ||| m) (hx : x.getLsbD b = true) :
    y.getLsbD b ≠ false := by
  simp [hy, BitVec.getLsbD_or, hx]

/-! ## The line (R377) -/

theorem irq_iff (s : State) : irq s = true ↔ ∃ b, b < 4 ∧ s.intstat.getLsbD b = true ∧ s.inten.getLsbD b = true := by
  have hzero : s.intstat &&& s.inten = 0#4 ↔ ∀ b, b < 4 → ¬ (s.intstat.getLsbD b = true ∧ s.inten.getLsbD b = true) := by
    constructor
    · intro h b _ hb
      have hbit := congrArg (·.getLsbD b) h
      simp [BitVec.getLsbD_and, hb] at hbit
    · intro h
      refine BitVec.eq_of_getLsbD_eq fun b hb => ?_
      simpa [BitVec.getLsbD_and] using h b hb
  rw [irq, decide_eq_true_iff, Ne, BitVec.ofNat_eq_ofNat, hzero]
  push Not
  rfl

/-! ## What a step does to `INTSTAT` (R376, R378) -/

theorem targetOf_eq_ctl {addr : Addr} {r : CtlReg} (h : targetOf addr = .ctl r) : addr = r.addr := by
  unfold targetOf at h
  split at h
  case h_15 => split at h <;> cases h
  all_goals
    obtain rfl := Target.ctl.inj h
    exact BitVec.eq_of_toNat_eq ‹_›

theorem bits_eq_of_accessOk {addr : Addr} {bits : Nat} (h : accessOk addr bits = true) : bits = 32 := by
  simp only [accessOk, Bool.and_eq_true, decide_eq_true_eq] at h
  exact h.1

/-- What an access leaves in `INTSTAT`: a write to the register clears the bits written 1, a soft reset clears all, a blocked
access sets `OVR`. -/
def AccessIntstat (s : State) (ev : Input) (t : State) : Prop :=
  t.intstat = s.intstat ∨
  (s.status.busy = true ∧ t.intstat = s.intstat ||| intOvr) ∨
  (∃ d : Word, ev = .write 0x024#12 32 d ∧ t.intstat = s.intstat &&& ~~~(d.truncate 4)) ∨
  ∃ d : Word, ev = .write 0x00C#12 32 d ∧ d.getLsbD 0 = true ∧ s.status.busy = false ∧ s.status.fatal = false ∧ t.intstat = 0#4

section
variable {s u : State} {ev : Input}

theorem busRead_intstat (s : State) (addr : Addr) (bits : Nat) :
    AccessIntstat s (.read addr bits) (busRead s addr bits).1 := by
  have hblocked : blocking s = true → AccessIntstat s (.read addr bits) (blockedAccess s).1 := fun h =>
    .inr (.inl ⟨(Bool.and_eq_true_iff.1 h).1, rfl⟩)
  unfold busRead
  split
  · split
    · exact .inl rfl
    · split
      · next hb => exact hblocked hb
      · exact .inl rfl
    · split
      · next hb => exact hblocked (Bool.and_eq_true_iff.1 hb).1
      · exact .inl rfl
  · exact .inl rfl

/-- A guarded write is dropped, blocked, or has its effect. -/
theorem guardedWrite_intstat (h : s.status.busy = false → s.status.fatal = false → AccessIntstat s ev u) :
    AccessIntstat s ev (guardedWrite s u).1 := by
  cases hfatal : s.status.fatal with
  | true =>
    rw [guardedWrite_of_fatal hfatal]
    exact .inl rfl
  | false =>
    cases hbusy : s.status.busy with
    | true =>
      rw [guardedWrite_of_busy hbusy hfatal]
      exact .inr (.inl ⟨hbusy, rfl⟩)
    | false =>
      rw [guardedWrite_of_idle hbusy hfatal]
      exact h hbusy hfatal

theorem ctlWrite_intstat (s : State) (r : CtlReg) (data : Word) :
    AccessIntstat s (.write r.addr 32 data) (ctlWrite s r data).1 := by
  cases r with
  | cmd => exact guardedWrite_intstat fun _ _ => .inl rfl
  | iolen => exact guardedWrite_intstat fun _ _ => .inl rfl
  | ctrl =>
    refine guardedWrite_intstat fun hbusy hfatal => ?_
    unfold softReset
    split
    · next hd => exact .inr (.inr (.inr ⟨data, rfl, hd, hbusy, hfatal, rfl⟩))
    · exact .inl rfl
  | intstat => exact .inr (.inr (.inl ⟨data, rfl, rfl⟩))
  | inten | id | version | cap | status | errinfo | listcnt | etag0 | etag1 | vtag => exact .inl rfl

theorem busWrite_intstat (s : State) (addr : Addr) (bits : Nat) (data : Word) :
    AccessIntstat s (.write addr bits data) (busWrite s addr bits data).1 := by
  unfold busWrite
  split
  · next hok =>
    obtain rfl := bits_eq_of_accessOk hok
    split
    · exact .inl rfl
    · exact guardedWrite_intstat fun _ _ => .inl rfl
    · next r htarget =>
      obtain rfl := targetOf_eq_ctl htarget
      exact ctlWrite_intstat s r data
  · exact .inl rfl

end

/-- What a completion leaves in `INTSTAT`. -/
def TurnIntstat (s t : State) : Prop :=
  t.intstat = s.intstat ∨
  s.status.busy = true ∧
    (t.intstat = s.intstat ||| intDone ∨ t.status.err = true ∧ t.intstat = s.intstat ||| (intDone ||| intErr))

theorem State.raised_turnIntstat {s : State} (hbusy : s.status.busy = true) (x : Exn) : TurnIntstat s (s.raised x) :=
  .inr ⟨hbusy, .inr ⟨rfl, BitVec.or_assoc ..⟩⟩

theorem CommandEnds.turnIntstat {f : CommandFacts} {s t : State} (h : CommandEnds f s t) (hbusy : s.status.busy = true) :
    TurnIntstat s t := by
  cases h with
  | raised x => exact State.raised_turnIntstat hbusy x
  | _ => exact .inr ⟨hbusy, .inl rfl⟩

theorem engineTurn_intstat {s t : State} (h : engineTurn s = .next t) : TurnIntstat s t := by
  cases hbusy : s.status.busy with
  | false =>
    rw [engineTurn_idle hbusy] at h
    cases h
    exact .inl rfl
  | true =>
    rw [engineTurn_busy hbusy] at h
    cases hdec : decode s.cmd with
    | ok i =>
      rw [completeCommand_ok hdec] at h
      exact (exec_ends i h).turnIntstat hbusy
    | error e =>
      rw [completeCommand_error hdec] at h
      cases h
      exact State.raised_turnIntstat hbusy _

/-- What a step leaves in `INTSTAT`, by its event. -/
def StepIntstat (s t : State) : Prop :=
  ((s.inputs = [] ∨ ∃ rest, s.inputs = .engine :: rest) ∧ TurnIntstat s t) ∨
  (∃ ev rest, s.inputs = ev :: rest ∧ (∃ a n, ev = .read a n ∨ ∃ d, ev = .write a n d) ∧ AccessIntstat s ev t) ∨
  (∃ rest, s.inputs = .integrityFailure :: rest ∧ (t.intstat = s.intstat ∨ t.intstat = s.intstat ||| 7#4)) ∨
  ∃ rest, s.inputs = .hardwareReset :: rest ∧ t.intstat = 0#4

theorem step_intstat {s t : State} (h : step s = .next t) : StepIntstat s t := by
  cases hin : s.inputs with
  | nil =>
    rw [step_nil hin] at h
    exact .inl ⟨.inl hin, engineTurn_intstat h⟩
  | cons ev rest =>
    rw [step_cons hin] at h
    cases ev with
    | read a n =>
      cases h
      exact .inr (.inl ⟨_, rest, hin, ⟨a, n, .inl rfl⟩, busRead_intstat (s.setInputs rest) a n⟩)
    | write a n d =>
      cases h
      exact .inr (.inl ⟨_, rest, hin, ⟨a, n, .inr ⟨d, rfl⟩⟩, busWrite_intstat (s.setInputs rest) a n d⟩)
    | engine => exact .inl ⟨.inr ⟨rest, hin⟩, engineTurn_intstat (s := s.setInputs rest) h⟩
    | integrityFailure =>
      cases h
      cases hfatal : s.status.fatal with
      | true =>
        rw [State.integrityFail_of_fatal (s.setInputs rest) hfatal]
        exact .inr (.inr (.inl ⟨rest, hin, .inl rfl⟩))
      | false =>
        rw [State.integrityFail_of_not_fatal (s := s.setInputs rest) hfatal]
        exact .inr (.inr (.inl ⟨rest, hin, .inr rfl⟩))
    | hardwareReset =>
      cases h
      exact .inr (.inr (.inr ⟨rest, hin, rfl⟩))

/-! ## Clearing and setting a bit -/

section
variable {s t : State} {b : Nat}

theorem TurnIntstat.not_cleared (h : TurnIntstat s t) (hb : s.intstat.getLsbD b = true) : t.intstat.getLsbD b ≠ false := by
  obtain h | ⟨-, h | ⟨-, h⟩⟩ := h
  · simp [h, hb]
  · exact not_cleared_of_or h hb
  · exact not_cleared_of_or h hb

theorem TurnIntstat.set (h : TurnIntstat s t) (hb : s.intstat.getLsbD b = false) (hset : t.intstat.getLsbD b = true) :
    s.status.busy = true ∧ (b = 0 ∨ (b = 1 ∧ t.status.err = true)) := by
  obtain h | ⟨hbusy, h | ⟨herr, h⟩⟩ := h
  · simp [h, hb] at hset
  · have hbit := getLsbD_of_set h hb hset
    exact ⟨hbusy, .inl (by simpa [getLsbD_intDone] using hbit)⟩
  · have hbit := getLsbD_of_set h hb hset
    exact ⟨hbusy, by simpa [BitVec.getLsbD_or, getLsbD_intDone, getLsbD_intErr, herr] using hbit⟩

theorem AccessIntstat.cleared {ev : Input} (h : AccessIntstat s ev t) (hlt : b < 4) (hb : s.intstat.getLsbD b = true)
    (hclear : t.intstat.getLsbD b = false) :
    (∃ d, ev = .write 0x024#12 32 d ∧ d.getLsbD b = true) ∨
      ∃ d, ev = .write 0x00C#12 32 d ∧ d.getLsbD 0 = true ∧ s.status.busy = false ∧ s.status.fatal = false := by
  obtain h | ⟨-, h⟩ | ⟨d, hev, h⟩ | ⟨d, hev, hd, hbusy, hfatal, -⟩ := h
  · simp [h, hb] at hclear
  · exact absurd hclear (not_cleared_of_or h hb)
  · exact .inl ⟨d, hev, by simpa [h, BitVec.getLsbD_and, hb, hlt] using hclear⟩
  · exact .inr ⟨d, hev, hd, hbusy, hfatal⟩

theorem AccessIntstat.set {ev : Input} (h : AccessIntstat s ev t) (hb : s.intstat.getLsbD b = false)
    (hset : t.intstat.getLsbD b = true) : s.status.busy = true ∧ b = 3 := by
  obtain h | ⟨hbusy, h⟩ | ⟨d, -, h⟩ | ⟨d, -, -, -, -, h⟩ := h
  · simp [h, hb] at hset
  · have hbit := getLsbD_of_set h hb hset
    exact ⟨hbusy, by simpa [getLsbD_intOvr] using hbit⟩
  · simp [h, BitVec.getLsbD_and, hb] at hset
  · simp [h] at hset

theorem StepIntstat.cleared (h : StepIntstat s t) (hlt : b < 4) (hb : s.intstat.getLsbD b = true)
    (hclear : t.intstat.getLsbD b = false) :
    ∃ ev rest, s.inputs = ev :: rest ∧
      (ev = .hardwareReset ∨ (∃ d, ev = .write 0x024#12 32 d ∧ d.getLsbD b = true) ∨
        ∃ d, ev = .write 0x00C#12 32 d ∧ d.getLsbD 0 = true ∧ s.status.busy = false ∧ s.status.fatal = false) := by
  obtain ⟨-, h⟩ | ⟨ev, rest, hin, -, h⟩ | ⟨rest, -, h | h⟩ | ⟨rest, hin, -⟩ := h
  · exact absurd hclear (h.not_cleared hb)
  · exact ⟨ev, rest, hin, .inr (h.cleared hlt hb hclear)⟩
  · simp [h, hb] at hclear
  · exact absurd hclear (not_cleared_of_or h hb)
  · exact ⟨_, rest, hin, .inl rfl⟩

theorem StepIntstat.set (h : StepIntstat s t) (hb : s.intstat.getLsbD b = false) (hset : t.intstat.getLsbD b = true) :
    (∃ rest, s.inputs = .integrityFailure :: rest ∧ b < 3) ∨
      (s.status.busy = true ∧ (s.inputs = [] ∨ ∃ rest, s.inputs = .engine :: rest) ∧
        (b = 0 ∨ (b = 1 ∧ t.status.err = true))) ∨
      (s.status.busy = true ∧ b = 3 ∧
        ∃ a n rest, s.inputs = .read a n :: rest ∨ ∃ d, s.inputs = .write a n d :: rest) := by
  obtain ⟨hin, h⟩ | ⟨ev, rest, hin, ⟨a, n, hev⟩, h⟩ | ⟨rest, hin, h | h⟩ | ⟨rest, -, h⟩ := h
  · obtain ⟨hbusy, hbit⟩ := h.set hb hset
    exact .inr (.inl ⟨hbusy, hin, hbit⟩)
  · obtain ⟨hbusy, hbit⟩ := h.set hb hset
    refine .inr (.inr ⟨hbusy, hbit, a, n, rest, ?_⟩)
    obtain rfl | ⟨d, rfl⟩ := hev
    · exact .inl hin
    · exact .inr ⟨d, hin⟩
  · simp [h, hb] at hset
  · exact .inl ⟨rest, hin, getLsbD_seven (getLsbD_of_set h hb hset)⟩
  · simp [h] at hset

end

/-- Settles O55: the line bit by bit, and the bits by what each event leaves in `INTSTAT`. -/
theorem interruptBitsAndLine : Obligations.InterruptBitsAndLine :=
  ⟨irq_iff, fun _ _ h => ⟨fun _ hlt => (step_intstat h).cleared hlt, fun _ _ => (step_intstat h).set⟩⟩

end Sys2Proof.Machine
end

section
/-! An exception restores the state a command started in (`60_exceptions.md` R361, R372). -/

namespace Sys2Proof.Machine

theorem Exn.code_pos (x : Exn) : 0 < x.code := by cases x <;> simp [Exn.code]

theorem Exn.code_lt (x : Exn) : x.code < 256 := by cases x <;> simp [Exn.code]

theorem Exn.sub_lt (x : Exn) : x.sub < 256 := by
  cases x with
  | emptyOperand w | typeMismatch w => cases w <;> decide
  | _ => simp [Exn.sub]

/-- No end but a raise writes `ERR`. -/
theorem CommandEnds.raised_of_err {f : CommandFacts} {s t : State} (h : CommandEnds f s t) (hs : s.status.err = false)
    (ht : t.status.err = true) : ∃ x, t = s.raised x := by
  cases h with
  | raised x => exact ⟨x, rfl⟩
  | _ => exact absurd ht (Bool.eq_false_iff.1 hs)

/-- A completion sets `ERR` by a raise only, whether or not the word in `CMD` is a command. -/
theorem completeCommand_raised_of_err {s t : State} (h : completeCommand s = .next t) (hs : s.status.err = false)
    (ht : t.status.err = true) : ∃ x, t = s.raised x := by
  cases hdec : decode s.cmd with
  | ok i =>
    rw [completeCommand_ok hdec] at h
    exact (exec_ends i h).raised_of_err hs ht
  | error e =>
    rw [completeCommand_error hdec] at h
    cases h
    exact ⟨_, rfl⟩

/-- Settles O39: acceptance writes `CMD`, `STATUS` and `ERRINFO` only, and a raise `STATUS`, `ERRINFO` and `INTSTAT` only. -/
theorem errorCompletionIsPrecise : Obligations.ErrorCompletionIsPrecise := by
  intro s w t _ _ h ht
  obtain ⟨x, rfl⟩ := completeCommand_raised_of_err h rfl ht
  exact ⟨x.code, x.sub, x.idx, x.code_pos, x.code_lt, x.sub_lt, raised_eq_afterRaise _ x⟩

end Sys2Proof.Machine
end

section
/-! SUPPORT. What a computation of a command can raise, whatever it yields: the fetches, the index checks and the decoders
(`60_exceptions.md` R362 to R368), and the Miller loops of the product check (`45_pairing_check.md` R300, R306). -/

namespace Sys2Proof.Machine

/-- The computation succeeds with a value that has `Q`, or raises an exception that has `P`. -/
def Yields {α : Type} (P : Exn → Prop) (Q : α → Prop) (e : Except Exn α) : Prop :=
  (∀ a, e = .ok a → Q a) ∧ ∀ x, e = .error x → P x

/-- The computation raises only exceptions that have `P`. -/
abbrev RaisesOnly {α : Type} (P : Exn → Prop) (e : Except Exn α) : Prop := Yields P (fun _ => True) e

/-- The exception stands in these rows of R374 and reports index 0. -/
abbrev InRows (rows : List (Nat × Nat)) (x : Exn) : Prop := (x.code, x.sub) ∈ rows ∧ x.idx = 0

section
variable {α β : Type} {P : Exn → Prop} {Q : β → Prop}

theorem Yields.ok {b : β} (h : Q b) : Yields P Q (.ok b) := ⟨fun _ he => Except.ok.inj he ▸ h, nofun⟩

theorem Yields.error {x : Exn} (h : P x) : Yields P Q (.error x) := ⟨nofun, fun _ he => Except.error.inj he ▸ h⟩

theorem RaisesOnly.bind {x : Except Exn α} {f : α → Except Exn β} (hx : RaisesOnly P x) (hf : ∀ a, Yields P Q (f a)) :
    Yields P Q (x >>= f) := by
  cases x with
  | ok a => exact hf a
  | error e => exact .error (hx.2 e rfl)

theorem raisesOnly_iff {x : Except Exn α} : RaisesOnly P x ↔ ∀ e, x = .error e → P e :=
  and_iff_right fun _ _ => trivial

theorem raisesOnly_of_ok {x : Except Exn α} (h : ∃ a, x = .ok a) : RaisesOnly P x := by
  obtain ⟨a, rfl⟩ := h
  exact .ok trivial

end

/-! ## Indices -/

theorem and_and_eq_true {a b c : Bool} (h : (a && b && c) = true) : a = true ∧ b = true ∧ c = true := by
  simpa [and_assoc] using h

theorem exists_pIdx {i : PIdx} (h : inP i = true) : ∃ d, pIdx i = .ok d := ⟨⟨i.toNat, of_decide_eq_true h⟩, pIdx_ok.2 rfl⟩

theorem exists_qIdx {i : QIdx} (h : inQ i = true) : ∃ d, qIdx i = .ok d := ⟨⟨i.toNat, of_decide_eq_true h⟩, qIdx_ok.2 rfl⟩

theorem exists_kIdx {i : KIdx} (h : inK i = true) : ∃ d, kIdx i = .ok d := ⟨⟨i.toNat, of_decide_eq_true h⟩, kIdx_ok.2 rfl⟩

/-! ## Fetches -/

section
variable {α : Type} {P : Exn → Prop} {w : Operand} {s : State}

theorem getE_raises {accepts : EVal → Option α} {i : EIdx} (hempty : P (.emptyOperand w)) (htype : P (.typeMismatch w)) :
    RaisesOnly P (getE accepts s i w) := by
  refine raisesOnly_iff.2 fun e he => ?_
  obtain ⟨-, rfl⟩ | ⟨-, -, rfl⟩ := getE_error.1 he
  · exact hempty
  · exact htype

theorem getValid_raises {r : Option α} (hempty : P (.emptyOperand w)) : RaisesOnly P (getValid r w) := by
  refine raisesOnly_iff.2 fun e he => ?_
  obtain ⟨-, rfl⟩ := getValid_error.1 he
  exact hempty

theorem loadBytes_raises {n : Nat} (hlen : P .invalidLength) : RaisesOnly P (loadBytes s n) := by
  refine raisesOnly_iff.2 fun e he => ?_
  obtain ⟨-, rfl⟩ := loadBytes_error he
  exact hlen

end

/-! ## Decoders -/

theorem RaisesNonCanonical.raisesOnly {α : Type} {P : Exn → Prop} {dec : List Byte → Except Exn α} (h : RaisesNonCanonical dec)
    (hP : P .nonCanonical) (B : List Byte) : RaisesOnly P (dec B) :=
  raisesOnly_iff.2 fun e he => by rwa [h B e he]

theorem canonical_raises {P : Exn → Prop} (hP : P .nonCanonical) (v : Nat) : RaisesOnly P (canonical v) := by
  unfold canonical
  split
  · exact .ok trivial
  · exact .error hP

theorem checkedPoint_raises {F : Type} {P : Exn → Prop} (hP : P .notOnCurve) (onCurve : Point F → Bool) (x y : F) :
    RaisesOnly P (checkedPoint onCurve x y) := by
  unfold checkedPoint
  split
  · exact .ok trivial
  · exact .error hP

theorem withSign_raises {F : Type} [DecidableEq F] {P : Exn → Prop} (hcurve : P .notOnCurve) (hcanon : P .nonCanonical)
    (zero : F) (neg : F → F) (sgn : F → Nat) (S : Nat) (x : F) (root : Option F) :
    RaisesOnly P (withSign zero neg sgn S x root) := by
  cases root with
  | none => exact .error hcurve
  | some y =>
    unfold withSign
    dsimp only
    split_ifs
    · exact .error hcanon
    all_goals exact .ok trivial

theorem nonCanonical_inRows : InRows raisesPointLoad .nonCanonical := by decide

theorem notOnCurve_inRows : InRows raisesPointLoad .notOnCurve := by decide

theorem decG1_raises (B : List Byte) : RaisesOnly (InRows raisesPointLoad) (decG1 B) := by
  unfold decG1
  split
  · exact .ok trivial
  · exact (decFp_raises.raisesOnly nonCanonical_inRows _).bind fun x =>
      (decFp_raises.raisesOnly nonCanonical_inRows _).bind fun y => checkedPoint_raises notOnCurve_inRows onCurve1 x y

theorem decG2_raises (B : List Byte) : RaisesOnly (InRows raisesPointLoad) (decG2 B) := by
  unfold decG2
  split
  · exact .ok trivial
  · exact (decFp2_raises.raisesOnly nonCanonical_inRows _).bind fun x =>
      (decFp2_raises.raisesOnly nonCanonical_inRows _).bind fun y => checkedPoint_raises notOnCurve_inRows onCurve2 x y

theorem decG1C_raises (B : List Byte) : RaisesOnly (InRows raisesPointLoad) (decG1C B) := by
  unfold decG1C
  split
  · exact .ok trivial
  · exact (canonical_raises nonCanonical_inRows _).bind fun x =>
      withSign_raises notOnCurve_inRows nonCanonical_inRows ..

theorem decG2C_raises (B : List Byte) : RaisesOnly (InRows raisesPointLoad) (decG2C B) := by
  unfold decG2C
  split
  · exact .ok trivial
  · exact (decFp2_raises.raisesOnly nonCanonical_inRows _).bind fun x =>
      withSign_raises notOnCurve_inRows nonCanonical_inRows ..

/-! ## Miller loops -/

theorem miller_raises (A : G1Point) (B : G2Point) : RaisesOnly (InRows raisesMiller) (miller A B) :=
  raisesOnly_iff.2 fun e he => by
    rw [miller_error he]
    decide

theorem pairing_raises (A : G1Point) (B : G2Point) : RaisesOnly (InRows raisesMiller) (pairing A B) := by
  cases h : miller A B with
  | ok f =>
    rw [pairing_of_ok h]
    exact .ok trivial
  | error e =>
    rw [pairing_of_error h, ← h]
    exact raisesOnly_iff.2 (raisesOnly_iff.1 (miller_raises A B))

/-- The accumulation raises at a pair of the lists. -/
theorem pairProduct_error {As : List G1Point} {Bs : List G2Point} {n : Nat} {acc : Fp12} {x : Exn}
    (h : pairProduct n acc As Bs = .error x) : ∃ i < As.length, x = .degenerateStep (n + i) := by
  induction As generalizing Bs n acc with
  | nil => cases h
  | cons A As ih =>
    cases Bs with
    | nil => cases h
    | cons B Bs =>
      cases hm : miller A B with
      | ok f =>
        rw [pairProduct_cons_of_ok hm] at h
        obtain ⟨i, hi, rfl⟩ := ih h
        refine ⟨i + 1, Nat.succ_lt_succ hi, ?_⟩
        rw [Nat.add_right_comm, Nat.add_assoc]
      | error e =>
        rw [pairProduct_cons_of_error hm] at h
        exact ⟨0, Nat.succ_pos _, (Except.error.inj h).symm⟩

/-- The check raises for its lengths, or at a pair. -/
theorem pairingCheck_error {As : List G1Point} {Bs : List G2Point} {x : Exn} (h : pairingCheck As Bs = .error x) :
    x = .lengthMismatch ∨ ∃ i < As.length, x = .degenerateStep i := by
  by_cases hlen : As.length = Bs.length
  · cases hp : pairProduct 0 fp12One As Bs with
    | ok acc =>
      rw [pairingCheck_of_ok hlen hp] at h
      cases h
    | error e =>
      rw [pairingCheck_of_error hlen hp] at h
      obtain rfl := Except.error.inj h
      simpa using Or.inr (pairProduct_error hp)
  · rw [pairingCheck_of_length_ne hlen] at h
    exact .inl (Except.error.inj h).symm

end Sys2Proof.Machine
end

section
/-! What each command can raise (`60_exceptions.md` R362 to R370, R374): its computation shape by shape, each with the row it can
raise from. -/

namespace Sys2Proof.Machine

/-- The command is a computation that leaves `ERR` alone and raises only exceptions that have `P`. -/
def CommandRaises (P : Exn → Prop) (s : State) (r : Result) : Prop :=
  ∃ e : Except Exn State, r = s.finish e ∧ Yields P (fun u => u.status.err = s.status.err) e

section
variable {P : Exn → Prop} {s t : State}

theorem commandRaises_finish {e : Except Exn State} (h : Yields P (fun u => u.status.err = s.status.err) e) :
    CommandRaises P s (s.finish e) := ⟨e, rfl, h⟩

/-- An error completion is a raise that the command can make. -/
theorem CommandRaises.exists_of_err (h : CommandRaises P s (.next t)) (hs : s.status.err = false) (ht : t.status.err = true) :
    ∃ x, P x ∧ t = s.afterRaise x.code x.sub x.idx := by
  obtain ⟨e, he, hok, herror⟩ := h
  obtain ⟨u, rfl, rfl⟩ | ⟨x, rfl, rfl⟩ := State.finish_next.1 he.symm
  · rw [State.completed_status, hok u rfl, hs] at ht
    cases ht
  · exact ⟨x, herror x rfl, raised_eq_afterRaise s x⟩

/-! ## Shapes over the `E` file -/

section
variable {α : Type} {accepts : EVal → Option α} {tag : α → EVal} {rd ra rb : EIdx}

theorem getE_raisesTyped (s : State) (i : EIdx) (w : Operand) : RaisesOnly (InRows raisesTyped) (getE accepts s i w) :=
  getE_raises (by cases w <;> decide) (by cases w <;> decide)

theorem eBinary_raises (f : α → α → α) : CommandRaises (InRows raisesTyped) s (eBinary accepts tag f rd ra rb s) :=
  commandRaises_finish ((getE_raisesTyped s ra .ra).bind fun _ => (getE_raisesTyped s rb .rb).bind fun _ => .ok rfl)

theorem eUnary_raises (f : α → α) : CommandRaises (InRows raisesTyped) s (eUnary accepts tag f rd ra s) :=
  commandRaises_finish ((getE_raisesTyped s ra .ra).bind fun _ => .ok rfl)

theorem eNonZero_raises [DecidableEq α] (zero : α) (f : α → α) :
    CommandRaises (InRows raisesInverse) s (eNonZero accepts tag zero f rd ra s) := by
  refine commandRaises_finish ((getE_raises (by decide) (by decide)).bind fun a => ?_)
  split
  · exact .error (by decide)
  · exact .ok rfl

theorem eTest2_raises (test : α → α → Bool) : CommandRaises (InRows raisesTyped) s (eTest2 accepts test ra rb s) :=
  commandRaises_finish ((getE_raisesTyped s ra .ra).bind fun _ => (getE_raisesTyped s rb .rb).bind fun _ => .ok rfl)

theorem eTest_raises (test : α → Bool) : CommandRaises (InRows raisesTyped) s (eTest accepts test ra s) :=
  commandRaises_finish ((getE_raisesTyped s ra .ra).bind fun _ => .ok rfl)

theorem eLoad_raises {n : Nat} {dec : List Byte → Except Exn α} (hdec : RaisesNonCanonical dec) :
    CommandRaises (InRows raisesFieldLoad) s (eLoad n dec tag rd s) :=
  commandRaises_finish ((loadBytes_raises (by decide)).bind fun B => (hdec.raisesOnly (by decide) B).bind fun _ => .ok rfl)

theorem eStore_raises (enc : α → List Byte) : CommandRaises (InRows raisesTyped) s (eStore accepts enc ra s) :=
  commandRaises_finish ((getE_raisesTyped s ra .ra).bind fun _ => .ok rfl)

end

/-! ## Shapes over the point files -/

section
variable {rd ra rb : RegIdx}

theorem getValid_raisesEmpty {α : Type} (r : Option α) (w : Operand) : RaisesOnly (InRows raisesEmpty) (getValid r w) :=
  getValid_raises (by cases w <;> decide)

theorem pIdx_raises (h : inP rd = true) : RaisesOnly P (pIdx rd) := raisesOnly_of_ok (exists_pIdx h)

theorem qIdx_raises (h : inQ rd = true) : RaisesOnly P (qIdx rd) := raisesOnly_of_ok (exists_qIdx h)

theorem kIdx_raises (h : inK rd = true) : RaisesOnly P (kIdx rd) := raisesOnly_of_ok (exists_kIdx h)

theorem pBinary_raises (f : G1Point → G1Point → G1Point) (hd : inP rd = true) (ha : inP ra = true) (hb : inP rb = true) :
    CommandRaises (InRows raisesEmpty) s (pBinary f rd ra rb s) :=
  commandRaises_finish ((pIdx_raises hd).bind fun _ => (pIdx_raises ha).bind fun _ => (pIdx_raises hb).bind fun _ =>
    (getValid_raisesEmpty _ .ra).bind fun _ => (getValid_raisesEmpty _ .rb).bind fun _ => .ok rfl)

theorem pUnary_raises (f : G1Point → G1Point) (hd : inP rd = true) (ha : inP ra = true) :
    CommandRaises (InRows raisesEmpty) s (pUnary f rd ra s) :=
  commandRaises_finish ((pIdx_raises hd).bind fun _ => (pIdx_raises ha).bind fun _ =>
    (getValid_raisesEmpty _ .ra).bind fun _ => .ok rfl)

theorem pTest2_raises (test : G1Point → G1Point → Bool) (ha : inP ra = true) (hb : inP rb = true) :
    CommandRaises (InRows raisesEmpty) s (pTest2 test ra rb s) :=
  commandRaises_finish ((pIdx_raises ha).bind fun _ => (pIdx_raises hb).bind fun _ =>
    (getValid_raisesEmpty _ .ra).bind fun _ => (getValid_raisesEmpty _ .rb).bind fun _ => .ok rfl)

theorem pTest_raises (test : G1Point → Bool) (ha : inP ra = true) :
    CommandRaises (InRows raisesEmpty) s (pTest test ra s) :=
  commandRaises_finish ((pIdx_raises ha).bind fun _ => (getValid_raisesEmpty _ .ra).bind fun _ => .ok rfl)

theorem pRequire_raises (ok : G1Point → Bool) (ha : inP ra = true) :
    CommandRaises (InRows raisesChkSub) s (pRequire ok .notInSubgroup ra s) := by
  refine commandRaises_finish ((pIdx_raises ha).bind fun _ => (getValid_raises (by decide)).bind fun A => ?_)
  split
  · exact .ok rfl
  · exact .error (by decide)

theorem pConst_raises (A : G1Point) (hd : inP rd = true) : CommandRaises (InRows raisesNone) s (pConst A rd s) :=
  commandRaises_finish ((pIdx_raises hd).bind fun _ => .ok rfl)

theorem pLoad_raises {n : Nat} {dec : List Byte → Except Exn G1Point} (hd : inP rd = true)
    (hdec : ∀ B, RaisesOnly (InRows raisesPointLoad) (dec B)) :
    CommandRaises (InRows raisesPointLoad) s (pLoad n dec rd s) :=
  commandRaises_finish ((pIdx_raises hd).bind fun _ => (loadBytes_raises (by decide)).bind fun B =>
    (hdec B).bind fun _ => .ok rfl)

theorem pStore_raises (enc : G1Point → List Byte) (ha : inP ra = true) :
    CommandRaises (InRows raisesEmpty) s (pStore enc ra s) :=
  commandRaises_finish ((pIdx_raises ha).bind fun _ => (getValid_raisesEmpty _ .ra).bind fun _ => .ok rfl)

theorem qBinary_raises (f : G2Point → G2Point → G2Point) (hd : inQ rd = true) (ha : inQ ra = true) (hb : inQ rb = true) :
    CommandRaises (InRows raisesEmpty) s (qBinary f rd ra rb s) :=
  commandRaises_finish ((qIdx_raises hd).bind fun _ => (qIdx_raises ha).bind fun _ => (qIdx_raises hb).bind fun _ =>
    (getValid_raisesEmpty _ .ra).bind fun _ => (getValid_raisesEmpty _ .rb).bind fun _ => .ok rfl)

theorem qUnary_raises (f : G2Point → G2Point) (hd : inQ rd = true) (ha : inQ ra = true) :
    CommandRaises (InRows raisesEmpty) s (qUnary f rd ra s) :=
  commandRaises_finish ((qIdx_raises hd).bind fun _ => (qIdx_raises ha).bind fun _ =>
    (getValid_raisesEmpty _ .ra).bind fun _ => .ok rfl)

theorem qTest2_raises (test : G2Point → G2Point → Bool) (ha : inQ ra = true) (hb : inQ rb = true) :
    CommandRaises (InRows raisesEmpty) s (qTest2 test ra rb s) :=
  commandRaises_finish ((qIdx_raises ha).bind fun _ => (qIdx_raises hb).bind fun _ =>
    (getValid_raisesEmpty _ .ra).bind fun _ => (getValid_raisesEmpty _ .rb).bind fun _ => .ok rfl)

theorem qTest_raises (test : G2Point → Bool) (ha : inQ ra = true) :
    CommandRaises (InRows raisesEmpty) s (qTest test ra s) :=
  commandRaises_finish ((qIdx_raises ha).bind fun _ => (getValid_raisesEmpty _ .ra).bind fun _ => .ok rfl)

theorem qRequire_raises (ok : G2Point → Bool) (ha : inQ ra = true) :
    CommandRaises (InRows raisesChkSub) s (qRequire ok .notInSubgroup ra s) := by
  refine commandRaises_finish ((qIdx_raises ha).bind fun _ => (getValid_raises (by decide)).bind fun A => ?_)
  split
  · exact .ok rfl
  · exact .error (by decide)

theorem qConst_raises (A : G2Point) (hd : inQ rd = true) : CommandRaises (InRows raisesNone) s (qConst A rd s) :=
  commandRaises_finish ((qIdx_raises hd).bind fun _ => .ok rfl)

theorem qLoad_raises {n : Nat} {dec : List Byte → Except Exn G2Point} (hd : inQ rd = true)
    (hdec : ∀ B, RaisesOnly (InRows raisesPointLoad) (dec B)) :
    CommandRaises (InRows raisesPointLoad) s (qLoad n dec rd s) :=
  commandRaises_finish ((qIdx_raises hd).bind fun _ => (loadBytes_raises (by decide)).bind fun B =>
    (hdec B).bind fun _ => .ok rfl)

theorem qStore_raises (enc : G2Point → List Byte) (ha : inQ ra = true) :
    CommandRaises (InRows raisesEmpty) s (qStore enc ra s) :=
  commandRaises_finish ((qIdx_raises ha).bind fun _ => (getValid_raisesEmpty _ .ra).bind fun _ => .ok rfl)

/-! ## The commands with a meaning of their own -/

theorem execEMov_raises (rd ra : EIdx) : CommandRaises (InRows raisesEmpty) s (execEMov rd ra s) := by
  refine commandRaises_finish ?_
  split
  · exact .error (by decide)
  · exact .ok rfl

theorem execGtExp_raises (hb : inK rb = true) : CommandRaises (InRows raisesTyped) s (execGtExp rd ra rb s) :=
  commandRaises_finish ((kIdx_raises hb).bind fun _ => (getE_raisesTyped s ra .ra).bind fun _ =>
    (getValid_raises (by decide)).bind fun _ => .ok rfl)

theorem execGtToFp12_raises (rd ra : EIdx) : CommandRaises (InRows raisesTyped) s (execGtToFp12 rd ra s) :=
  eUnary_raises (tag := .fp12) id

theorem execG1Smul_raises (hd : inP rd = true) (ha : inP ra = true) (hb : inK rb = true) :
    CommandRaises (InRows raisesEmpty) s (execG1Smul rd ra rb s) :=
  commandRaises_finish ((pIdx_raises hd).bind fun _ => (pIdx_raises ha).bind fun _ => (kIdx_raises hb).bind fun _ =>
    (getValid_raisesEmpty _ .ra).bind fun _ => (getValid_raisesEmpty _ .rb).bind fun _ => .ok rfl)

theorem execG2Smul_raises (hd : inQ rd = true) (ha : inQ ra = true) (hb : inK rb = true) :
    CommandRaises (InRows raisesEmpty) s (execG2Smul rd ra rb s) :=
  commandRaises_finish ((qIdx_raises hd).bind fun _ => (qIdx_raises ha).bind fun _ => (kIdx_raises hb).bind fun _ =>
    (getValid_raisesEmpty _ .ra).bind fun _ => (getValid_raisesEmpty _ .rb).bind fun _ => .ok rfl)

theorem execKLd_raises (hd : inK rd = true) : CommandRaises (InRows raisesKLoad) s (execKLd rd s) :=
  commandRaises_finish ((kIdx_raises hd).bind fun _ => (loadBytes_raises (by decide)).bind fun _ => .ok rfl)

theorem execKClr_raises (hd : inK rd = true) : CommandRaises (InRows raisesNone) s (execKClr rd s) :=
  commandRaises_finish ((kIdx_raises hd).bind fun _ => .ok rfl)

theorem execMiller_raises (ha : inP ra = true) (hb : inQ rb = true) :
    CommandRaises (InRows raisesMiller) s (execMiller rd ra rb s) :=
  commandRaises_finish ((pIdx_raises ha).bind fun _ => (qIdx_raises hb).bind fun _ =>
    (getValid_raises (by decide)).bind fun A => (getValid_raises (by decide)).bind fun B =>
    (miller_raises A B).bind fun _ => .ok rfl)

theorem execPair_raises (ha : inP ra = true) (hb : inQ rb = true) :
    CommandRaises (InRows raisesMiller) s (execPair rd ra rb s) :=
  commandRaises_finish ((pIdx_raises ha).bind fun _ => (qIdx_raises hb).bind fun _ =>
    (getValid_raises (by decide)).bind fun A => (getValid_raises (by decide)).bind fun B =>
    (pairing_raises A B).bind fun _ => .ok rfl)

theorem execFinalExp_raises (rd ra : EIdx) : CommandRaises (InRows raisesInverse) s (execFinalExp rd ra s) := by
  refine commandRaises_finish ((getE_raises (by decide) (by decide)).bind fun f => ?_)
  split
  · exact .error (by decide)
  · exact .ok rfl

theorem execPcPush1_raises (ha : inP ra = true) : CommandRaises (InRows raisesPush) s (execPcPush1 ra s) := by
  refine commandRaises_finish ((pIdx_raises ha).bind fun _ => (getValid_raises (by decide)).bind fun A => ?_)
  split
  · exact .error (by decide)
  · exact .ok rfl

theorem execPcPush2_raises (ha : inQ ra = true) : CommandRaises (InRows raisesPush) s (execPcPush2 ra s) := by
  refine commandRaises_finish ((qIdx_raises ha).bind fun _ => (getValid_raises (by decide)).bind fun A => ?_)
  split
  · exact .error (by decide)
  · exact .ok rfl

/-- The index of a raise of `PC.RUN` is that of a pair. -/
theorem execPcRun_raises (s : State) :
    CommandRaises (fun x => (x.code, x.sub) ∈ raisesPcRun ∧ (x.idx = 0 ∨ x.idx < s.l1.length)) s (execPcRun s) := by
  refine commandRaises_finish (RaisesOnly.bind (raisesOnly_iff.2 fun e he => ?_) fun _ => .ok rfl)
  obtain rfl | ⟨i, hi, rfl⟩ := pairingCheck_error he
  · exact ⟨by decide, .inl rfl⟩
  · exact ⟨by simp [Exn.code, Exn.sub, raisesPcRun], .inr hi⟩

end

/-- A command that completes outright. -/
theorem commandRaises_of_ok {u : State} (h : u.status.err = s.status.err) : CommandRaises P s (.next u.completed) :=
  commandRaises_finish (.ok h)

end

/-! ## Every command -/

/-- A well-formed command other than `PC.RUN` raises from its row, with index 0. -/
theorem exec_raises (i : Instr) (s : State) (hwf : i.wellFormed = true) (hi : i ≠ .pcRun) :
    CommandRaises (InRows (commandFacts i).raises) s (exec i s) := by
  cases i with
  | nop | zeroize | pcClr | fpZero _ | fpOne _ | fp2Zero _ | fp2One _ | fp6Zero _ | fp6One _ | fp12Zero _ | fp12One _
  | gtOne _ | mloOne _ => exact commandRaises_of_ok rfl
  | eMov rd ra => exact execEMov_raises rd ra
  | fpAdd _ _ _ | fpSub _ _ _ | fpMul _ _ _ | fp2Add _ _ _ | fp2Sub _ _ _ | fp2Mul _ _ _ | fp6Add _ _ _
  | fp6Sub _ _ _ | fp6Mul _ _ _ | fp12Add _ _ _ | fp12Sub _ _ _ | fp12Mul _ _ _ | gtMul _ _ _ | mloMul _ _ _ =>
    exact eBinary_raises _
  | fpNeg _ _ | fpSqr _ _ | fp2Neg _ _ | fp2Sqr _ _ | fp6Neg _ _ | fp6Sqr _ _ | fp12Neg _ _ | fp12Sqr _ _
  | gtInv _ _ => exact eUnary_raises _
  | fpInv _ _ | fp2Inv _ _ | fp6Inv _ _ | fp12Inv _ _ => exact eNonZero_raises _ _
  | fpEq _ _ | fp2Eq _ _ | fp6Eq _ _ | fp12Eq _ _ | gtEq _ _ => exact eTest2_raises _
  | gtIsOne _ => exact eTest_raises _
  | fpLd _ => exact eLoad_raises decFp_raises
  | fp2Ld _ => exact eLoad_raises decFp2_raises
  | fp6Ld _ => exact eLoad_raises decFp6_raises
  | fp12Ld _ => exact eLoad_raises decFp12_raises
  | fpSt _ | fp2St _ | fp6St _ | fp12St _ | gtSt _ => exact eStore_raises _
  | gtExp _ _ _ => exact execGtExp_raises hwf
  | gtToFp12 rd ra => exact execGtToFp12_raises rd ra
  | g1Add _ _ _ =>
    obtain ⟨hd, ha, hb⟩ := and_and_eq_true hwf
    exact pBinary_raises _ hd ha hb
  | g1Dbl _ _ | g1Neg _ _ | g1Mov _ _ =>
    obtain ⟨hd, ha⟩ := Bool.and_eq_true_iff.1 hwf
    exact pUnary_raises _ hd ha
  | g1IsOnCurve _ | g1IsId _ => exact pTest_raises _ hwf
  | g1Eq _ _ =>
    obtain ⟨ha, hb⟩ := Bool.and_eq_true_iff.1 hwf
    exact pTest2_raises _ ha hb
  | g1ChkSub _ => exact pRequire_raises _ hwf
  | g1SetId _ | g1Gen _ => exact pConst_raises _ hwf
  | g1Ld _ => exact pLoad_raises hwf decG1_raises
  | g1Ldc _ => exact pLoad_raises hwf decG1C_raises
  | g1St _ | g1Stc _ => exact pStore_raises _ hwf
  | g1Smul _ _ _ =>
    obtain ⟨hd, ha, hb⟩ := and_and_eq_true hwf
    exact execG1Smul_raises hd ha hb
  | g2Add _ _ _ =>
    obtain ⟨hd, ha, hb⟩ := and_and_eq_true hwf
    exact qBinary_raises _ hd ha hb
  | g2Dbl _ _ | g2Neg _ _ | g2Mov _ _ =>
    obtain ⟨hd, ha⟩ := Bool.and_eq_true_iff.1 hwf
    exact qUnary_raises _ hd ha
  | g2IsOnCurve _ | g2IsId _ => exact qTest_raises _ hwf
  | g2Eq _ _ =>
    obtain ⟨ha, hb⟩ := Bool.and_eq_true_iff.1 hwf
    exact qTest2_raises _ ha hb
  | g2ChkSub _ => exact qRequire_raises _ hwf
  | g2SetId _ | g2Gen _ => exact qConst_raises _ hwf
  | g2Ld _ => exact qLoad_raises hwf decG2_raises
  | g2Ldc _ => exact qLoad_raises hwf decG2C_raises
  | g2St _ | g2Stc _ => exact qStore_raises _ hwf
  | g2Smul _ _ _ =>
    obtain ⟨hd, ha, hb⟩ := and_and_eq_true hwf
    exact execG2Smul_raises hd ha hb
  | kLd _ => exact execKLd_raises hwf
  | kClr _ => exact execKClr_raises hwf
  | miller _ _ _ =>
    obtain ⟨ha, hb⟩ := Bool.and_eq_true_iff.1 hwf
    exact execMiller_raises ha hb
  | pair _ _ _ =>
    obtain ⟨ha, hb⟩ := Bool.and_eq_true_iff.1 hwf
    exact execPair_raises ha hb
  | finalExp rd ra => exact execFinalExp_raises rd ra
  | pcPush1 _ => exact execPcPush1_raises hwf
  | pcPush2 _ => exact execPcPush2_raises hwf
  | pcRun => exact absurd rfl hi

/-- Settles O40: `PC.RUN` by its own lemma, every other command by its shape. -/
theorem exceptionsOfEachCommand : Obligations.ExceptionsOfEachCommand := by
  intro i s t hwf hs h ht
  by_cases hi : i = .pcRun
  · subst hi
    have hraises : CommandRaises _ s (exec .pcRun s) := execPcRun_raises s
    rw [h] at hraises
    obtain ⟨x, ⟨hrow, hidx⟩, rfl⟩ := hraises.exists_of_err hs ht
    exact ⟨(x.code, x.sub), x.idx, hrow, rfl, fun hne => absurd rfl hne, hidx⟩
  · have hraises := exec_raises i s hwf hi
    rw [h] at hraises
    obtain ⟨x, ⟨hrow, hidx⟩, rfl⟩ := hraises.exists_of_err hs ht
    exact ⟨(x.code, x.sub), x.idx, hrow, rfl, fun _ => hidx, .inl hidx⟩

end Sys2Proof.Machine
end

section
/-! The operand checks in their order (`60_exceptions.md` R366, R367, R373): every command fetches the operand in `ra` and then the one
in `rb`, after its index checks and before anything else. -/

namespace Sys2Proof.Machine

/-- The computation raises `EmptyOperand`, or else `TypeMismatch`, if the source fails the check. -/
def ChecksSource {α : Type} (s : State) (a : Source) (w : Operand) (e : Except Exn α) : Prop :=
  (a.present s = false → e = .error (.emptyOperand w)) ∧
    (a.present s = true → a.accepted s = false → e = .error (.typeMismatch w))

/-- The computation is the fetch of the source: it checks it, and succeeds if the source is ready. -/
def FetchesSource {α : Type} (s : State) (a : Source) (w : Operand) (e : Except Exn α) : Prop :=
  ChecksSource s a w e ∧ (a.ready s = true → ∃ v, e = .ok v)

/-- The computation checks the source of `ra` first, and that of `rb` once the first is ready. -/
def ChecksInOrder {α : Type} (s : State) (a : Source) (ob : Option Source) (e : Except Exn α) : Prop :=
  ChecksSource s a .ra e ∧ ∀ b, a.ready s = true → ob = some b → ChecksSource s b .rb e

section
variable {α β γ : Type} {s : State} {a b : Source} {ob : Option Source} {w : Operand}

theorem ChecksSource.bind {x : Except Exn α} {f : α → Except Exn β} (h : ChecksSource s a w x) :
    ChecksSource s a w (x >>= f) := by
  obtain ⟨hempty, htype⟩ := h
  exact ⟨fun hp => bind_error.2 (.inl (hempty hp)), fun hp ha => bind_error.2 (.inl (htype hp ha))⟩

/-- What succeeds before the checks does not matter. -/
theorem ChecksInOrder.bind_of_ok {x : Except Exn α} {f : α → Except Exn β} (hx : ∃ v, x = .ok v)
    (h : ∀ v, x = .ok v → ChecksInOrder s a ob (f v)) : ChecksInOrder s a ob (x >>= f) := by
  obtain ⟨v, rfl⟩ := hx
  exact h v rfl

/-- A command with one source fetches it. -/
theorem FetchesSource.one {x : Except Exn α} {f : α → Except Exn β} (hx : FetchesSource s a .ra x) :
    ChecksInOrder s a none (x >>= f) :=
  ⟨hx.1.bind, nofun⟩

/-- A command with two sources fetches one after the other. -/
theorem FetchesSource.two {x : Except Exn α} {y : Except Exn β} {f : α → β → Except Exn γ} (hx : FetchesSource s a .ra x)
    (hy : FetchesSource s b .rb y) : ChecksInOrder s a (some b) (x >>= fun v => y >>= f v) := by
  obtain ⟨hchecks, hok⟩ := hx
  refine ⟨hchecks.bind, ?_⟩
  rintro _ hready ⟨⟩
  obtain ⟨v, rfl⟩ := hok hready
  exact hy.1.bind

end

/-! ## Fetches -/

/-- Of the values that are not EMPTY, those with a tag of the list are accepted (R367). -/
def AcceptsTags {α : Type} (accepts : EVal → Option α) (tags : List Nat) : Prop :=
  ∀ v, v ≠ .empty → (accepts v).isSome = tags.contains v.tag

theorem AcceptsTag.tags {α : Type} {accepts : EVal → Option α} {n : Nat} (h : AcceptsTag accepts n) :
    AcceptsTags accepts [n] := fun v _ => by simp [h v]

theorem acceptsTags_mloOrFp12 : AcceptsTags EVal.asMloOrFp12 tagMloOrFp12 := fun v _ => by cases v <;> rfl

/-- `E.MOV` takes every value that is there (R352). -/
theorem acceptsTags_any : AcceptsTags some tagAny := fun v hv => by
  cases v with
  | empty => exact absurd rfl hv
  | _ => rfl

section
variable {α : Type} {s : State} {w : Operand}

theorem present_e (s : State) (i : EIdx) (tags : List Nat) :
    (Source.e i tags).present s = decide (s.eregs[eIdx i] ≠ .empty) := by
  have h := (holdsE_iff s i _).2 rfl
  simp only [Source.present, h, Option.map_some, Option.getD_some, ne_eq, EVal.eq_empty_iff]
  rw [Bool.eq_iff_iff, bne_iff_ne, decide_eq_true_iff]

theorem accepted_e (s : State) (i : EIdx) (tags : List Nat) :
    (Source.e i tags).accepted s = tags.contains s.eregs[eIdx i].tag := by
  have h := (holdsE_iff s i _).2 rfl
  simp only [Source.accepted, h, Option.map_some, Option.getD_some]

theorem getE_fetches {accepts : EVal → Option α} {tags : List Nat} (h : AcceptsTags accepts tags) (i : EIdx) :
    FetchesSource s (.e i tags) w (getE accepts s i w) := by
  simp only [FetchesSource, ChecksSource, Source.ready, Bool.and_eq_true, present_e, accepted_e, decide_eq_true_iff,
    decide_eq_false_iff_not, not_not]
  refine ⟨⟨fun hempty => getE_error.2 (.inl ⟨hempty, rfl⟩), fun hne hrej => getE_error.2 (.inr ⟨hne, ?_, rfl⟩)⟩, ?_⟩
  · rwa [← h _ hne, Option.isSome_eq_false_iff, Option.isNone_iff_eq_none] at hrej
  · rintro ⟨hne, hacc⟩
    rw [← h _ hne] at hacc
    obtain ⟨v, hv⟩ := Option.isSome_iff_exists.1 hacc
    exact ⟨v, getE_ok.2 ⟨hne, hv⟩⟩

/-- A register of a file with one type only has to be valid. -/
theorem getValid_fetches {a : Source} {r : Option α} (hpresent : a.present s = r.isSome) (haccepted : a.accepted s = true) :
    FetchesSource s a w (getValid r w) := by
  refine ⟨⟨fun h => ?_, fun _ h => absurd haccepted (Bool.eq_false_iff.1 h)⟩, fun h => ?_⟩
  · rw [hpresent, Option.isSome_eq_false_iff, Option.isNone_iff_eq_none] at h
    exact getValid_error.2 ⟨h, rfl⟩
  · rw [Source.ready, hpresent, haccepted, Bool.and_true] at h
    obtain ⟨v, hv⟩ := Option.isSome_iff_exists.1 h
    exact ⟨v, getValid_ok.2 hv⟩

theorem getP_fetches {i : PIdx} {d : Fin Config.NP} (h : pIdx i = .ok d) : FetchesSource s (.p i) w (getP s d w) :=
  getValid_fetches (by simp [Source.present, pIdx_ok.1 h]) rfl

theorem getQ_fetches {i : QIdx} {d : Fin Config.NQ} (h : qIdx i = .ok d) : FetchesSource s (.q i) w (getQ s d w) :=
  getValid_fetches (by simp [Source.present, qIdx_ok.1 h]) rfl

theorem getK_fetches {i : KIdx} {d : Fin Config.NK} (h : kIdx i = .ok d) : FetchesSource s (.k i) w (getK s d w) :=
  getValid_fetches (by simp [Source.present, kIdx_ok.1 h]) rfl

end

/-! ## Commands -/

/-- The command is a computation that checks the sources it has in order. -/
def CommandChecks (s : State) (oa ob : Option Source) (r : Result) : Prop :=
  ∀ a, oa = some a → ∃ e, r = s.finish e ∧ ChecksInOrder s a ob e

section
variable {s : State}

theorem commandChecks_finish {a : Source} {ob : Option Source} {e : Except Exn State} (h : ChecksInOrder s a ob e) :
    CommandChecks s (some a) ob (s.finish e) := by
  rintro _ ⟨⟩
  exact ⟨e, rfl, h⟩

/-! ### Shapes over the `E` file -/

section
variable {α : Type} {accepts : EVal → Option α} {tag : α → EVal} {tags : List Nat} {rd ra rb : EIdx}

theorem eBinary_checks (f : α → α → α) (h : AcceptsTags accepts tags) :
    CommandChecks s (some (.e ra tags)) (some (.e rb tags)) (eBinary accepts tag f rd ra rb s) :=
  commandChecks_finish ((getE_fetches h ra).two (getE_fetches h rb))

theorem eUnary_checks (f : α → α) (h : AcceptsTags accepts tags) :
    CommandChecks s (some (.e ra tags)) none (eUnary accepts tag f rd ra s) :=
  commandChecks_finish (getE_fetches h ra).one

theorem eNonZero_checks [DecidableEq α] (zero : α) (f : α → α) (h : AcceptsTags accepts tags) :
    CommandChecks s (some (.e ra tags)) none (eNonZero accepts tag zero f rd ra s) :=
  commandChecks_finish (getE_fetches h ra).one

theorem eTest2_checks (test : α → α → Bool) (h : AcceptsTags accepts tags) :
    CommandChecks s (some (.e ra tags)) (some (.e rb tags)) (eTest2 accepts test ra rb s) :=
  commandChecks_finish ((getE_fetches h ra).two (getE_fetches h rb))

theorem eTest_checks (test : α → Bool) (h : AcceptsTags accepts tags) :
    CommandChecks s (some (.e ra tags)) none (eTest accepts test ra s) :=
  commandChecks_finish (getE_fetches h ra).one

theorem eStore_checks (enc : α → List Byte) (h : AcceptsTags accepts tags) :
    CommandChecks s (some (.e ra tags)) none (eStore accepts enc ra s) :=
  commandChecks_finish (getE_fetches h ra).one

end

/-! ### Shapes over the point files -/

section
variable {rd ra rb : RegIdx}

theorem pBinary_checks (f : G1Point → G1Point → G1Point) (hd : inP rd = true) (ha : inP ra = true) (hb : inP rb = true) :
    CommandChecks s (some (.p ra)) (some (.p rb)) (pBinary f rd ra rb s) :=
  commandChecks_finish (.bind_of_ok (exists_pIdx hd) fun _ _ => .bind_of_ok (exists_pIdx ha) fun _ ha =>
    .bind_of_ok (exists_pIdx hb) fun _ hb => (getP_fetches ha).two (getP_fetches hb))

theorem pUnary_checks (f : G1Point → G1Point) (hd : inP rd = true) (ha : inP ra = true) :
    CommandChecks s (some (.p ra)) none (pUnary f rd ra s) :=
  commandChecks_finish (.bind_of_ok (exists_pIdx hd) fun _ _ => .bind_of_ok (exists_pIdx ha) fun _ ha =>
    (getP_fetches ha).one)

theorem pTest2_checks (test : G1Point → G1Point → Bool) (ha : inP ra = true) (hb : inP rb = true) :
    CommandChecks s (some (.p ra)) (some (.p rb)) (pTest2 test ra rb s) :=
  commandChecks_finish (.bind_of_ok (exists_pIdx ha) fun _ ha => .bind_of_ok (exists_pIdx hb) fun _ hb =>
    (getP_fetches ha).two (getP_fetches hb))

theorem pTest_checks (test : G1Point → Bool) (ha : inP ra = true) :
    CommandChecks s (some (.p ra)) none (pTest test ra s) :=
  commandChecks_finish (.bind_of_ok (exists_pIdx ha) fun _ ha => (getP_fetches ha).one)

theorem pRequire_checks (ok : G1Point → Bool) (x : Exn) (ha : inP ra = true) :
    CommandChecks s (some (.p ra)) none (pRequire ok x ra s) :=
  commandChecks_finish (.bind_of_ok (exists_pIdx ha) fun _ ha => (getP_fetches ha).one)

theorem pStore_checks (enc : G1Point → List Byte) (ha : inP ra = true) :
    CommandChecks s (some (.p ra)) none (pStore enc ra s) :=
  commandChecks_finish (.bind_of_ok (exists_pIdx ha) fun _ ha => (getP_fetches ha).one)

theorem qBinary_checks (f : G2Point → G2Point → G2Point) (hd : inQ rd = true) (ha : inQ ra = true) (hb : inQ rb = true) :
    CommandChecks s (some (.q ra)) (some (.q rb)) (qBinary f rd ra rb s) :=
  commandChecks_finish (.bind_of_ok (exists_qIdx hd) fun _ _ => .bind_of_ok (exists_qIdx ha) fun _ ha =>
    .bind_of_ok (exists_qIdx hb) fun _ hb => (getQ_fetches ha).two (getQ_fetches hb))

theorem qUnary_checks (f : G2Point → G2Point) (hd : inQ rd = true) (ha : inQ ra = true) :
    CommandChecks s (some (.q ra)) none (qUnary f rd ra s) :=
  commandChecks_finish (.bind_of_ok (exists_qIdx hd) fun _ _ => .bind_of_ok (exists_qIdx ha) fun _ ha =>
    (getQ_fetches ha).one)

theorem qTest2_checks (test : G2Point → G2Point → Bool) (ha : inQ ra = true) (hb : inQ rb = true) :
    CommandChecks s (some (.q ra)) (some (.q rb)) (qTest2 test ra rb s) :=
  commandChecks_finish (.bind_of_ok (exists_qIdx ha) fun _ ha => .bind_of_ok (exists_qIdx hb) fun _ hb =>
    (getQ_fetches ha).two (getQ_fetches hb))

theorem qTest_checks (test : G2Point → Bool) (ha : inQ ra = true) :
    CommandChecks s (some (.q ra)) none (qTest test ra s) :=
  commandChecks_finish (.bind_of_ok (exists_qIdx ha) fun _ ha => (getQ_fetches ha).one)

theorem qRequire_checks (ok : G2Point → Bool) (x : Exn) (ha : inQ ra = true) :
    CommandChecks s (some (.q ra)) none (qRequire ok x ra s) :=
  commandChecks_finish (.bind_of_ok (exists_qIdx ha) fun _ ha => (getQ_fetches ha).one)

theorem qStore_checks (enc : G2Point → List Byte) (ha : inQ ra = true) :
    CommandChecks s (some (.q ra)) none (qStore enc ra s) :=
  commandChecks_finish (.bind_of_ok (exists_qIdx ha) fun _ ha => (getQ_fetches ha).one)

/-! ### The commands with a meaning of their own -/

/-- `E.MOV` is a fetch that accepts every tag. -/
theorem execEMov_eq (rd ra : EIdx) (s : State) :
    execEMov rd ra s = s.finish (getE some s ra .ra >>= fun v => pure (s.setE (eIdx rd) v)) := by
  unfold execEMov getE
  congr 1
  split <;> rfl

theorem execEMov_checks (rd ra : EIdx) : CommandChecks s (some (.e ra tagAny)) none (execEMov rd ra s) := by
  rw [execEMov_eq]
  exact commandChecks_finish (getE_fetches acceptsTags_any ra).one

theorem execGtExp_checks (hb : inK rb = true) :
    CommandChecks s (some (.e ra tagGt)) (some (.k rb)) (execGtExp rd ra rb s) :=
  commandChecks_finish (.bind_of_ok (exists_kIdx hb) fun _ hb =>
    (getE_fetches acceptsTag_gt.tags ra).two (getK_fetches hb))

theorem execGtToFp12_checks (rd ra : EIdx) : CommandChecks s (some (.e ra tagGt)) none (execGtToFp12 rd ra s) :=
  eUnary_checks (tag := .fp12) id acceptsTag_gt.tags

theorem execFinalExp_checks (rd ra : EIdx) : CommandChecks s (some (.e ra tagMloOrFp12)) none (execFinalExp rd ra s) :=
  commandChecks_finish (getE_fetches acceptsTags_mloOrFp12 ra).one

theorem execG1Smul_checks (hd : inP rd = true) (ha : inP ra = true) (hb : inK rb = true) :
    CommandChecks s (some (.p ra)) (some (.k rb)) (execG1Smul rd ra rb s) :=
  commandChecks_finish (.bind_of_ok (exists_pIdx hd) fun _ _ => .bind_of_ok (exists_pIdx ha) fun _ ha =>
    .bind_of_ok (exists_kIdx hb) fun _ hb => (getP_fetches ha).two (getK_fetches hb))

theorem execG2Smul_checks (hd : inQ rd = true) (ha : inQ ra = true) (hb : inK rb = true) :
    CommandChecks s (some (.q ra)) (some (.k rb)) (execG2Smul rd ra rb s) :=
  commandChecks_finish (.bind_of_ok (exists_qIdx hd) fun _ _ => .bind_of_ok (exists_qIdx ha) fun _ ha =>
    .bind_of_ok (exists_kIdx hb) fun _ hb => (getQ_fetches ha).two (getK_fetches hb))

theorem execMiller_checks (ha : inP ra = true) (hb : inQ rb = true) :
    CommandChecks s (some (.p ra)) (some (.q rb)) (execMiller rd ra rb s) :=
  commandChecks_finish (.bind_of_ok (exists_pIdx ha) fun _ ha => .bind_of_ok (exists_qIdx hb) fun _ hb =>
    (getP_fetches ha).two (getQ_fetches hb))

theorem execPair_checks (ha : inP ra = true) (hb : inQ rb = true) :
    CommandChecks s (some (.p ra)) (some (.q rb)) (execPair rd ra rb s) :=
  commandChecks_finish (.bind_of_ok (exists_pIdx ha) fun _ ha => .bind_of_ok (exists_qIdx hb) fun _ hb =>
    (getP_fetches ha).two (getQ_fetches hb))

theorem execPcPush1_checks (ha : inP ra = true) : CommandChecks s (some (.p ra)) none (execPcPush1 ra s) :=
  commandChecks_finish (.bind_of_ok (exists_pIdx ha) fun _ ha => (getP_fetches ha).one)

theorem execPcPush2_checks (ha : inQ ra = true) : CommandChecks s (some (.q ra)) none (execPcPush2 ra s) :=
  commandChecks_finish (.bind_of_ok (exists_qIdx ha) fun _ ha => (getQ_fetches ha).one)

end
end

/-! ### Every command -/

/-- Every well-formed command checks the sources of its row in order. -/
theorem exec_checks (i : Instr) (s : State) (hwf : i.wellFormed = true) :
    CommandChecks s (commandFacts i).srcA (commandFacts i).srcB (exec i s) := by
  cases i with
  | nop | zeroize | pcClr | pcRun | fpZero _ | fpOne _ | fpLd _ | fp2Zero _ | fp2One _ | fp2Ld _ | fp6Zero _ | fp6One _
  | fp6Ld _ | fp12Zero _ | fp12One _ | fp12Ld _ | gtOne _ | mloOne _ | g1SetId _ | g1Gen _ | g1Ld _ | g1Ldc _
  | g2SetId _ | g2Gen _ | g2Ld _ | g2Ldc _ | kLd _ | kClr _ => exact nofun
  | eMov rd ra => exact execEMov_checks rd ra
  | fpAdd _ _ _ | fpSub _ _ _ | fpMul _ _ _ => exact eBinary_checks _ acceptsTag_fp.tags
  | fp2Add _ _ _ | fp2Sub _ _ _ | fp2Mul _ _ _ => exact eBinary_checks _ acceptsTag_fp2.tags
  | fp6Add _ _ _ | fp6Sub _ _ _ | fp6Mul _ _ _ => exact eBinary_checks _ acceptsTag_fp6.tags
  | fp12Add _ _ _ | fp12Sub _ _ _ | fp12Mul _ _ _ => exact eBinary_checks _ acceptsTag_fp12.tags
  | gtMul _ _ _ => exact eBinary_checks _ acceptsTag_gt.tags
  | mloMul _ _ _ => exact eBinary_checks _ acceptsTag_mlo.tags
  | fpNeg _ _ | fpSqr _ _ => exact eUnary_checks _ acceptsTag_fp.tags
  | fp2Neg _ _ | fp2Sqr _ _ => exact eUnary_checks _ acceptsTag_fp2.tags
  | fp6Neg _ _ | fp6Sqr _ _ => exact eUnary_checks _ acceptsTag_fp6.tags
  | fp12Neg _ _ | fp12Sqr _ _ => exact eUnary_checks _ acceptsTag_fp12.tags
  | gtInv _ _ => exact eUnary_checks _ acceptsTag_gt.tags
  | fpInv _ _ => exact eNonZero_checks _ _ acceptsTag_fp.tags
  | fp2Inv _ _ => exact eNonZero_checks _ _ acceptsTag_fp2.tags
  | fp6Inv _ _ => exact eNonZero_checks _ _ acceptsTag_fp6.tags
  | fp12Inv _ _ => exact eNonZero_checks _ _ acceptsTag_fp12.tags
  | fpEq _ _ => exact eTest2_checks _ acceptsTag_fp.tags
  | fp2Eq _ _ => exact eTest2_checks _ acceptsTag_fp2.tags
  | fp6Eq _ _ => exact eTest2_checks _ acceptsTag_fp6.tags
  | fp12Eq _ _ => exact eTest2_checks _ acceptsTag_fp12.tags
  | gtEq _ _ => exact eTest2_checks _ acceptsTag_gt.tags
  | gtIsOne _ => exact eTest_checks _ acceptsTag_gt.tags
  | fpSt _ => exact eStore_checks _ acceptsTag_fp.tags
  | fp2St _ => exact eStore_checks _ acceptsTag_fp2.tags
  | fp6St _ => exact eStore_checks _ acceptsTag_fp6.tags
  | fp12St _ => exact eStore_checks _ acceptsTag_fp12.tags
  | gtSt _ => exact eStore_checks _ acceptsTag_gt.tags
  | gtExp _ _ _ => exact execGtExp_checks hwf
  | gtToFp12 rd ra => exact execGtToFp12_checks rd ra
  | finalExp rd ra => exact execFinalExp_checks rd ra
  | g1Add _ _ _ =>
    obtain ⟨hd, ha, hb⟩ := and_and_eq_true hwf
    exact pBinary_checks _ hd ha hb
  | g1Dbl _ _ | g1Neg _ _ | g1Mov _ _ =>
    obtain ⟨hd, ha⟩ := Bool.and_eq_true_iff.1 hwf
    exact pUnary_checks _ hd ha
  | g1IsOnCurve _ | g1IsId _ => exact pTest_checks _ hwf
  | g1Eq _ _ =>
    obtain ⟨ha, hb⟩ := Bool.and_eq_true_iff.1 hwf
    exact pTest2_checks _ ha hb
  | g1ChkSub _ => exact pRequire_checks _ _ hwf
  | g1St _ | g1Stc _ => exact pStore_checks _ hwf
  | g1Smul _ _ _ =>
    obtain ⟨hd, ha, hb⟩ := and_and_eq_true hwf
    exact execG1Smul_checks hd ha hb
  | g2Add _ _ _ =>
    obtain ⟨hd, ha, hb⟩ := and_and_eq_true hwf
    exact qBinary_checks _ hd ha hb
  | g2Dbl _ _ | g2Neg _ _ | g2Mov _ _ =>
    obtain ⟨hd, ha⟩ := Bool.and_eq_true_iff.1 hwf
    exact qUnary_checks _ hd ha
  | g2IsOnCurve _ | g2IsId _ => exact qTest_checks _ hwf
  | g2Eq _ _ =>
    obtain ⟨ha, hb⟩ := Bool.and_eq_true_iff.1 hwf
    exact qTest2_checks _ ha hb
  | g2ChkSub _ => exact qRequire_checks _ _ hwf
  | g2St _ | g2Stc _ => exact qStore_checks _ hwf
  | g2Smul _ _ _ =>
    obtain ⟨hd, ha, hb⟩ := and_and_eq_true hwf
    exact execG2Smul_checks hd ha hb
  | miller _ _ _ =>
    obtain ⟨ha, hb⟩ := Bool.and_eq_true_iff.1 hwf
    exact execMiller_checks ha hb
  | pair _ _ _ =>
    obtain ⟨ha, hb⟩ := Bool.and_eq_true_iff.1 hwf
    exact execPair_checks ha hb
  | pcPush1 _ => exact execPcPush1_checks hwf
  | pcPush2 _ => exact execPcPush2_checks hwf

/-- The error completions of the two checks. -/
theorem ChecksSource.finish {s : State} {a : Source} {w : Operand} {e : Except Exn State} (h : ChecksSource s a w e) :
    (a.present s = false → s.finish e = .next (s.afterRaise 0x11 w.sub 0)) ∧
      (a.present s = true → a.accepted s = false → s.finish e = .next (s.afterRaise 0x12 w.sub 0)) := by
  obtain ⟨hempty, htype⟩ := h
  refine ⟨fun hp => ?_, fun hp ha => ?_⟩
  · rw [hempty hp, State.finish_error, raised_eq_afterRaise]
    rfl
  · rw [htype hp ha, State.finish_error, raised_eq_afterRaise]
    rfl

/-- Settles O37: the commands by their shapes, each a fetch of its sources in order. -/
theorem operandChecksInOrder : Obligations.OperandChecksInOrder := by
  intro i s a hwf ha
  obtain ⟨e, he, hra, hrb⟩ := exec_checks i s hwf a ha
  rw [he]
  obtain ⟨hempty, htype⟩ := hra.finish
  exact ⟨hempty, htype, fun b hready hb => (hrb b hready hb).finish⟩

end Sys2Proof.Machine
end
